-- ==== Sys2Proof/Word.lean ====
section
/-! DEFINITION. The widths and index ranges of the KB-3120 (spec/00_scope.md, "Terms"; spec/01 R1; spec/02 R17). -/

namespace Sys2Proof

/-- A byte of a link frame or of a word. -/
abbrev Byte := BitVec 8

/-- The eight data bytes of a word: bit 8b+i is bit i of byte b (R1, 13.7). -/
abbrev Data := BitVec 64

/-- The 72 coded lanes: lanes 0 to 63 data, lane 64+j check bit j (R1). -/
abbrev Coded := BitVec 72

/-- One stored word: 73 lanes, lane n in bit n (R1). -/
abbrev Stored := BitVec 73

/-- One of the eight possible arrays. -/
abbrev ArrayNo := Fin 8

/-- A coded lane, 0 to 71. -/
abbrev CodedLane := Fin 72

/-- A physical lane, 0 to 72. -/
abbrev PhysLane := Fin 73

/-- A spare number, 0 to 15. -/
abbrev SpareNo := Fin 16

/-- Host rows of an array (R17). -/
abbrev hostRows : Nat := 32768

/-- Physical rows of an array (R17). -/
abbrev physRows : Nat := 32784

/-- Columns of a row (R17). -/
abbrev columns : Nat := 1024

/-- Physical words of an array (R17). -/
abbrev wordsPerArray : Nat := 33570816

/-- Host words of an array (R17, R20). -/
abbrev hostWordsPerArray : Nat := 33554432

/-- The physical index of a word of an array (R17). -/
abbrev PhysIndex := Fin wordsPerArray

/-- A column of a row. -/
abbrev Column := Fin columns

end Sys2Proof
end

