-- ==== Sys2Proof/Syntax.lean ====
section
/-! DEFINITION. The commands of the KB-3120: one constructor for each row of spec/opcode_table.json. -/

namespace Sys2Proof

/-- One command of the block. An `array` operand names the sequencer concerned. The operand `flips` of a completion that
reads names the lanes in which the array now differs from what was last written (R9; log 3): zero for a sound array. A
command of the maintenance link carries the sequence and the argument bytes of its frame, as received (12.2, 13.2; log 11). -/
inductive Instr
  -- resets, supply and timed ends (chapter 10)
  | powerOn
  | supplyDip
  | holdEnd
  | busResetAsserted
  | busResetReleased
  | supplyWarningAsserted
  | supplyWarningReleased
  | retentionExitEnd
  | wakeEnd
  | quietEntryComplete
  | drainToFrozen
  -- the host memory port (chapter 9)
  | readRequest (tag : BitVec 4) (addr : BitVec 28)
  | writeRequest (addr : BitVec 28) (mask : Byte) (data : Data) (parity : Byte)
  | requestWeighedAgain
  -- the array sequencers (chapter 3)
  | turnGrant (array : ArrayNo)
  | hostReadComplete (array : ArrayNo) (flips : Stored)
  | drainComplete (array : ArrayNo) (flips : Stored)
  | peekTurnComplete (array : ArrayNo) (flips : Stored)
  | copyTurnComplete (array : ArrayNo) (flips : Stored)
  | migrateTurnComplete (array : ArrayNo) (flips : Stored)
  | fillTurnComplete (array : ArrayNo)
  | scrubTurnComplete (array : ArrayNo) (flips : Stored)
  | scrubIntervalExpiry
  -- the maintenance link (chapters 12 and 13)
  | linkGapTimeout
  | discardingTimeout
  | linkReject (seq code : Byte) (args : List Byte) (check : Byte)
  | unknown (seq code : Byte) (args : List Byte)
  | status (seq : Byte) (args : List Byte)
  | getParam (seq : Byte) (args : List Byte)
  | setParam (seq : Byte) (args : List Byte)
  | openPort (seq : Byte) (args : List Byte)
  | closePort (seq : Byte) (args : List Byte)
  | fill (seq : Byte) (args : List Byte)
  | quiesce (seq : Byte) (args : List Byte)
  | wake (seq : Byte) (args : List Byte)
  | restart (seq : Byte) (args : List Byte)
  | readCauses (seq : Byte) (args : List Byte)
  | clearCauses (seq : Byte) (args : List Byte)
  | clearFlags (seq : Byte) (args : List Byte)
  | setEnables (seq : Byte) (args : List Byte)
  | peek (seq : Byte) (args : List Byte)
  | mapRead (seq : Byte) (args : List Byte)
  | mapDelete (seq : Byte) (args : List Byte)
  | mapPurge (seq : Byte) (args : List Byte)
  | condemnRow (seq : Byte) (args : List Byte)
  | subCancel (seq : Byte) (args : List Byte)
  | subLoad (seq : Byte) (args : List Byte)
  | spareRetire (seq : Byte) (args : List Byte)
  | subRead (seq : Byte) (args : List Byte)
  | spareRead (seq : Byte) (args : List Byte)
  | condemnLane (seq : Byte) (args : List Byte)
  | laneCancel (seq : Byte) (args : List Byte)
  | laneLoad (seq : Byte) (args : List Byte)
  | laneRead (seq : Byte) (args : List Byte)
  | scrubRead (seq : Byte) (args : List Byte)
  | byteArrives (byte : Byte)
  | responseSent
  deriving DecidableEq, Repr

end Sys2Proof
end

