-- ==== Sys2Proof/Decode.lean ====
section
/-! DEFINITION. Reading the bytes of a command frame (spec/12 R179, R180, R189; spec/13 R194, 13.2, 13.4), and the fixed
name `decodeTableWord`: no row of spec/opcode_table.json gives bits, so no word spells a command (log 27). -/

namespace Sys2Proof

/-- The command a word spells by the table's bits: the table gives no row any bits. -/
def decodeTableWord (_nbits _w : Nat) : Option Instr := none

/-! ## The commands of the link -/

/-- The 28 commands of the maintenance link, in the order of 13.4. -/
inductive LinkCommand
  | status | getParam | setParam
  | openPort | closePort | fill | quiesce | wake | restart | readCauses | clearCauses
  | clearFlags | setEnables | peek
  | mapRead | mapDelete | mapPurge
  | condemnRow | subCancel | subLoad | spareRetire | subRead | spareRead
  | condemnLane | laneCancel | laneLoad | laneRead
  | scrubRead
  deriving DecidableEq, Repr

/-- Every command of the link (13.4). -/
def LinkCommand.all : List LinkCommand :=
  [.status, .getParam, .setParam, .openPort, .closePort, .fill, .quiesce, .wake, .restart, .readCauses, .clearCauses,
   .clearFlags, .setEnables, .peek, .mapRead, .mapDelete, .mapPurge, .condemnRow, .subCancel, .subLoad, .spareRetire,
   .subRead, .spareRead, .condemnLane, .laneCancel, .laneLoad, .laneRead, .scrubRead]

/-- The command code (13.4). -/
def LinkCommand.code : LinkCommand → Byte
  | .status => 0x01 | .getParam => 0x02 | .setParam => 0x03
  | .openPort => 0x10 | .closePort => 0x11 | .fill => 0x12 | .quiesce => 0x13 | .wake => 0x14
  | .restart => 0x15 | .readCauses => 0x16 | .clearCauses => 0x17
  | .clearFlags => 0x20 | .setEnables => 0x21 | .peek => 0x30
  | .mapRead => 0x40 | .mapDelete => 0x41 | .mapPurge => 0x42
  | .condemnRow => 0x50 | .subCancel => 0x51 | .subLoad => 0x52 | .spareRetire => 0x53
  | .subRead => 0x54 | .spareRead => 0x55
  | .condemnLane => 0x60 | .laneCancel => 0x61 | .laneLoad => 0x62 | .laneRead => 0x63
  | .scrubRead => 0x70

/-- The argument bytes the command takes (13.4). -/
def LinkCommand.argBytes : LinkCommand → Nat
  | .status | .openPort | .closePort | .fill | .quiesce | .wake | .restart | .readCauses | .mapPurge | .scrubRead => 0
  | .getParam | .clearCauses | .mapRead | .mapDelete | .subCancel | .subRead | .spareRead | .laneCancel | .laneRead => 1
  | .clearFlags | .spareRetire | .condemnLane | .laneLoad => 2
  | .setEnables | .condemnRow => 3
  | .subLoad => 4
  | .setParam | .peek => 5

/-- The result bytes sent with DONE (13.4). -/
def LinkCommand.resultBytes : LinkCommand → Nat
  | .status => 15
  | .getParam => 5
  | .readCauses => 2
  | .peek => 11
  | .mapRead => 16
  | .subRead => 9
  | .spareRead => 16
  | .laneRead => 7
  | .scrubRead => 13
  | .setParam | .openPort | .closePort | .fill | .quiesce | .wake | .restart | .clearCauses | .clearFlags | .setEnables
  | .mapDelete | .mapPurge | .condemnRow | .subCancel | .subLoad | .spareRetire | .condemnLane | .laneCancel
  | .laneLoad => 0

/-- The command of a code, absent when the code names none (R189). -/
def LinkCommand.ofCode (code : Byte) : Option LinkCommand :=
  LinkCommand.all.find? (fun c => c.code == code)

/-- The row of the table that a link command is. -/
def LinkCommand.row (c : LinkCommand) (seq : Byte) (args : List Byte) : Instr :=
  match c with
  | .status => .status seq args
  | .getParam => .getParam seq args
  | .setParam => .setParam seq args
  | .openPort => .openPort seq args
  | .closePort => .closePort seq args
  | .fill => .fill seq args
  | .quiesce => .quiesce seq args
  | .wake => .wake seq args
  | .restart => .restart seq args
  | .readCauses => .readCauses seq args
  | .clearCauses => .clearCauses seq args
  | .clearFlags => .clearFlags seq args
  | .setEnables => .setEnables seq args
  | .peek => .peek seq args
  | .mapRead => .mapRead seq args
  | .mapDelete => .mapDelete seq args
  | .mapPurge => .mapPurge seq args
  | .condemnRow => .condemnRow seq args
  | .subCancel => .subCancel seq args
  | .subLoad => .subLoad seq args
  | .spareRetire => .spareRetire seq args
  | .subRead => .subRead seq args
  | .spareRead => .spareRead seq args
  | .condemnLane => .condemnLane seq args
  | .laneCancel => .laneCancel seq args
  | .laneLoad => .laneLoad seq args
  | .laneRead => .laneRead seq args
  | .scrubRead => .scrubRead seq args

/-! ## The check byte -/

/-- One shift of the running check value toward bit 7 (R180). -/
def crcShift (v : Byte) : Byte :=
  if v.getLsbD 7 then (v <<< 1) ^^^ 0x07 else v <<< 1

/-- One byte taken into the running check value (R180). -/
def crcByte (v b : Byte) : Byte :=
  crcShift (crcShift (crcShift (crcShift (crcShift (crcShift (crcShift (crcShift (v ^^^ b))))))))

/-- The check byte over `bytes`: generator x^8 + x^2 + x + 1, initial value 0, no final inversion (R180). -/
def crc (bytes : List Byte) : Byte := bytes.foldl crcByte 0

/-! ## Command frames -/

/-- The marker of a command frame (13.2). -/
def commandMarker : Byte := 0xA5

/-- The length byte of a command frame: sequence, code and arguments (12.2). -/
def lengthByte (args : List Byte) : Byte := BitVec.ofNat 8 (2 + args.length)

/-- The bytes of a command frame between the marker and the check (13.2, bytes 1 to L + 1). -/
def frameBody (seq code : Byte) (args : List Byte) : List Byte :=
  lengthByte args :: seq :: code :: args

/-- A whole command frame with its good check (13.2). -/
def commandFrame (seq code : Byte) (args : List Byte) : List Byte :=
  commandMarker :: (frameBody seq code args ++ [crc (frameBody seq code args)])

/-- Whether a length byte is one of 2 to 14 (R179). -/
def goodLength (b : Byte) : Bool := 2 ≤ b.toNat && b.toNat ≤ 14

/-! ## Argument fields (R193, R194) -/

/-- A number sent most significant byte first (R193). -/
def beNat (bytes : List Byte) : Nat := bytes.foldl (fun acc b => acc * 256 + b.toNat) 0

/-- The numeric argument of `width` bytes that starts at argument byte `pos` (R194). -/
def argNat (args : List Byte) (pos width : Nat) : Nat := beNat ((args.drop pos).take width)

/-- A number of `width` bytes, most significant byte first (R193). -/
def beBytes : (width : Nat) → (n : Nat) → List Byte
  | 0, _ => []
  | w + 1, n => BitVec.ofNat 8 (n / 256 ^ w) :: beBytes w n

end Sys2Proof
end

