-- ==== Sys2Proof/Config.lean ====
section
/-! DEFINITION. What the spec leaves open: the contents of the arrays after a power-on or supply-dip reset
(R160, R34: "the array contents are undefined"; notes/assumptions/4.md). -/

namespace Sys2Proof.Config

/-- What a physical word reads as that no turn has written since the reset numbered `epoch`: a free value, one for
each reset, array and physical index (R160; log 4). -/
opaque undefinedWord (epoch : Nat) (array : Nat) (index : Nat) : Stored

end Sys2Proof.Config
end

