-- ==== Sys2Proof/Machine/State.lean ====
section
/-! DEFINITION. The state of the KB-3120, block by block as the chapters own it, the reasons a step can stop, and the
state after a power-on reset. INVENTORY.md's "State" lists each field with its rule and reset value. -/

namespace Sys2Proof.Machine

/-! ## Parameters (R192's table) -/

/-- The values ARRAYS takes (R16). -/
inductive ArrayCount
  | one | two | four | eight
  deriving DecidableEq, Repr

/-- The nine parameters (R192). The three that take 0 or 1 are Bools: `true` is 1. -/
structure Params where
  arrays : ArrayCount
  suspectAt : Nat
  rowLanes : Nat
  laneRows : Nat
  autoSub : Bool
  autoSteer : Bool
  repairRead : Bool
  scrubInterval : Nat
  highWater : Nat
  deriving DecidableEq, Repr

/-! ## Fault Map (chapter 4) -/

/-- The error classes an occurrence can carry: FIXED with its physical lane, BLANK, FAULT (R26, R43). -/
inductive ErrorClass
  | fixed (lane : PhysLane)
  | blank
  | fault
  deriving DecidableEq, Repr

/-- The class of an uncorrectable occurrence (R50). -/
inductive Uncorrectable
  | blank
  | fault
  deriving DecidableEq, Repr

/-- The kind of turn in which an occurrence was found (R43). -/
inductive Origin
  | hostRead | drain | scrub | copy | migrate
  deriving DecidableEq, Repr

/-- The Fault Map's judgement of the storage of an entry (R50). -/
inductive EntryState
  | watch | suspect | condemned
  deriving DecidableEq, Repr

/-- A Fault Map entry (R50). `lane` is absent for uncorrectable errors; `lastClass` is present only then. -/
structure MapEntry where
  array : ArrayNo
  row : Nat
  lane : Option PhysLane
  occurrences : Nat
  lastColumn : Nat
  firstPass : BitVec 16
  lastPass : BitVec 16
  lastOrigin : Origin
  state : EntryState
  lastClass : Option Uncorrectable
  deriving DecidableEq, Repr

/-- The 64 slots (R49) and the recency order, least recently updated slot first (R51). -/
structure FaultMap where
  slots : Vector (Option MapEntry) 64
  recency : List (Fin 64)
  deriving DecidableEq, Repr

/-- A decoded error on a stored word, as it is reported to the Fault Map (R26, R43). -/
structure Occurrence where
  array : ArrayNo
  row : Nat
  column : Nat
  error : ErrorClass
  origin : Origin
  deriving DecidableEq, Repr

/-! ## Repair blocks (chapters 5 and 6) -/

/-- How a copy, a load, a migration or a steering was begun (R73, R94). -/
inductive RepairOrigin
  | auto | host | loaded
  deriving DecidableEq, Repr

/-- Where a copy reads from (R73). -/
inductive CopySource
  | hostRow
  | spare (s : SpareNo)
  deriving DecidableEq, Repr

/-- The two states of an entry that is not FREE: COPYING has a source and a cursor (R73). -/
inductive SubPhase
  | copying (source : CopySource) (cursor : Nat)
  | active
  deriving DecidableEq, Repr

/-- A Substitution Table entry that is not FREE (R73). -/
structure SubEntry where
  array : ArrayNo
  hostRow : Nat
  phase : SubPhase
  target : SpareNo
  origin : RepairOrigin
  deriving DecidableEq, Repr

/-- The status of a spare row (R74). -/
inductive SpareStatus
  | free | inUse | retired
  deriving DecidableEq, Repr

/-- The Substitution Table (R73; absent is FREE) and the spare-row status of every array (R74). -/
structure RowEngine where
  table : Vector (Option SubEntry) 32
  spares : Vector (Vector SpareStatus 16) 8
  deriving DecidableEq, Repr

/-- A steering record (R94). -/
inductive SteerRecord
  | normal
  | migrating (lane : CodedLane) (cursor : Nat) (origin : RepairOrigin)
  | steered (lane : CodedLane) (origin : RepairOrigin)
  deriving DecidableEq, Repr

/-! ## Scrubber (chapter 7) -/

/-- A position of the scrub walk (R111, R112). -/
structure ScrubPos where
  array : ArrayNo
  row : Nat
  column : Nat
  deriving DecidableEq, Repr

/-- A position of the fill walk (R111, R120). -/
structure FillPos where
  array : ArrayNo
  index : PhysIndex
  deriving DecidableEq, Repr

/-- The Scrubber's state (R111): cursor, pass number, interval timer (log 5), whether its SCRUB claim waits (R116), and
the fill cursor, present while the fill state is IN-PROGRESS. -/
structure Scrubber where
  cursor : ScrubPos
  pass : BitVec 16
  timer : Nat
  claim : Bool
  fill : Option FillPos
  deriving DecidableEq, Repr

/-! ## Write Queue and Host Port (chapters 8 and 9) -/

/-- A Write Queue entry (R124). Bytes of `data` outside `mask` have no meaning and are kept zero (log 15). -/
structure WriteEntry where
  addr : BitVec 28
  array : ArrayNo
  data : Data
  mask : Byte
  poisoned : Bool
  mark : Nat
  inDrain : Bool
  deriving DecidableEq, Repr

/-- A snapshot of a partial-mask entry (R131). -/
structure Snapshot where
  mask : Byte
  data : Data
  poisoned : Bool
  deriving DecidableEq, Repr

/-- The home location of a host word address (R19). -/
structure Home where
  array : ArrayNo
  row : Nat
  column : Nat
  deriving DecidableEq, Repr

/-- A read taken and not yet answered (R147). `inTurn` is false while WAITING and true while IN-TURN. -/
structure OutRead where
  tag : BitVec 4
  addr : BitVec 28
  home : Home
  place : Nat
  snapshot : Option Snapshot
  inTurn : Bool
  deriving DecidableEq, Repr

/-- A request of the system memory bus (R142). -/
inductive Request
  | read (tag : BitVec 4) (addr : BitVec 28)
  | write (addr : BitVec 28) (mask : Byte) (data : Data) (parity : Byte)
  deriving DecidableEq, Repr

/-- The statuses of a read response (R152). -/
inductive ReadStatus
  | good | fixed | poison | blank | fault | range | closed | tagClash
  deriving DecidableEq, Repr

/-- The write acknowledgements (R153). -/
inductive WriteStatus
  | taken | takenPoisoned | range | closed
  deriving DecidableEq, Repr

/-- What the Host Port sends to the bus: a read response (R152) or a write acknowledgement (R153). -/
inductive PortAnswer
  | read (tag : BitVec 4) (data : Data) (parity : Byte) (status : ReadStatus)
  | write (status : WriteStatus)
  deriving DecidableEq, Repr

/-- The Host Port: the Outstanding Read List in take order (R147), the request in waiting (R142), the next place of the
take order (R143; log 14), and the answers sent, oldest first (the model's own record of its outputs, log 10). -/
structure HostPort where
  reads : List OutRead
  waiting : Option Request
  nextPlace : Nat
  answers : List PortAnswer
  deriving DecidableEq, Repr

/-! ## Path Controller and Alert Unit (chapters 10 and 11) -/

/-- The nine path states (R157). OPEN is `opened`. -/
inductive PathState
  | hold | setup | filling | opened | enteringQuiet | quiet | waking | draining | frozen
  deriving DecidableEq, Repr

/-- The values of the resume state (R157). -/
inductive ResumeState
  | setup | filling | opened
  deriving DecidableEq, Repr

/-- The last quiet outcome (R157). NONE is `noOutcome`. -/
inductive QuietOutcome
  | noOutcome | entered | declined | abandoned
  deriving DecidableEq, Repr

/-- The four reset causes (R171). -/
inductive ResetCause
  | powerOn | supplyDip | busReset | restart
  deriving DecidableEq, Repr

/-- The reset-cause record (R171): bit n of `flags` is the flag of cause mask bit n (13.5). -/
structure CauseRecord where
  flags : BitVec 4
  last : ResetCause
  deriving DecidableEq, Repr

/-- The Path Controller (R157), with whether a retention exit is in progress (R168). -/
structure PathController where
  path : PathState
  resume : ResumeState
  lastQuiet : QuietOutcome
  retentionExit : Bool
  causes : CauseRecord
  deriving DecidableEq, Repr

/-- The eleven alert flags (R172). -/
inductive AlertFlag
  | fixed | fault | poisonIn | mapFull | condemned | spareDone | noSpare | pass | fillDone | supply | link
  deriving DecidableEq, Repr

/-- The Alert Unit (R172): bit n of `flags` and `enables` is mask bit n of 13.5. -/
structure AlertUnit where
  flags : BitVec 11
  enables : BitVec 11
  master : Bool
  deriving DecidableEq, Repr

/-! ## Maintenance Link Interface (chapter 12) -/

/-- The receiver (R179). `gathered` are the bytes since the marker, the length byte first. -/
inductive Receiver
  | awaitMarker
  | inFrame (gathered : List Byte)
  | discarding
  deriving DecidableEq, Repr

/-- The status of a response (12.4). -/
inductive LinkStatus
  | ok | accepted | busy | refusedState | badArgument | unknown | noSpare | declined | abandoned | entered
  | linkReject | empty
  deriving DecidableEq, Repr

/-- A response frame: the echoed sequence, the status and the result bytes (13.2). DONE is `LinkStatus.ok`. -/
structure Response where
  seq : Byte
  status : LinkStatus
  result : List Byte
  deriving DecidableEq, Repr

/-- The commands that stay in execution past their frame: a withheld QUIESCE, or a PEEK whose claim waits
(`granted` false) or whose turn is in progress (R187, R44). -/
inductive Executing
  | quiesce
  | peek (array : ArrayNo) (word : PhysIndex) (granted : Bool)
  deriving DecidableEq, Repr

/-- The lock: the command in execution and its sequence (R185). -/
structure Lock where
  seq : Byte
  command : Executing
  deriving DecidableEq, Repr

/-- The Maintenance Link Interface: receiver (R179), lock (R185), last-response store (R186), and the responses formed and
not yet fully sent, in the order in which they were formed (R184). -/
structure Link where
  receiver : Receiver
  lock : Option Lock
  store : Option Response
  responses : List Response
  deriving DecidableEq, Repr

/-! ## Turns (chapter 3) -/

/-- The copy in hand (R83): the entry named at the grant, its source and target, the column, and whether it is void. -/
structure CopyHand where
  entry : Fin 32
  source : CopySource
  target : SpareNo
  column : Column
  void : Bool
  deriving DecidableEq, Repr

/-- What a turn does, with everything it relies on fixed at its grant (R34): the words it touches and its parameters.
A HOST-READ names the read it serves by its take place (R151); a DRAIN carries the entry as it stood (R136); `leftSet`
marks a SCRUB turn whose array has left the installed set since the grant (R117). -/
inductive TurnWork
  | hostRead (place : Nat) (word : PhysIndex) (repair : Bool)
  | drain (addr : BitVec 28) (data : Data) (mask : Byte) (poisoned : Bool) (readWord : PhysIndex)
      (writeWords : List PhysIndex)
  | peek (word : PhysIndex)
  | copy (hand : CopyHand) (sourceWord targetWord : PhysIndex)
  | migrate (lane : CodedLane) (index : PhysIndex) (void : Bool)
  | fill (index : PhysIndex) (void : Bool)
  | scrub (word : PhysIndex) (leftSet : Bool)
  deriving DecidableEq, Repr

/-- The turn in progress at a sequencer, with the array's steering record as it stood at the grant (R21, R34). -/
structure Turn where
  work : TurnWork
  steer : SteerRecord
  deriving DecidableEq, Repr

/-! ## The whole state -/

/-- The state of the block. `mem` lists the stored words that turns have written, by key; `epoch` counts the resets that
left the arrays undefined (log 4); `pending` is the queue of commands waiting (log 1). -/
structure State where
  params : Params
  mem : List (Nat × Stored)
  epoch : Nat
  turns : Vector (Option Turn) 8
  map : FaultMap
  subs : RowEngine
  steer : Vector SteerRecord 8
  scrub : Scrubber
  queue : List WriteEntry
  port : HostPort
  path : PathController
  alert : AlertUnit
  link : Link
  busReset : Bool
  supplyWarning : Bool
  pending : List Instr
  deriving DecidableEq, Repr

/-- Why the model stops with a fault. -/
inductive Fault
  /-- Raised by TURN_GRANT alone, where the claimant names a row, column or index its array does not have (R17). The part
  never does (R28: resolution cannot fail), so only a state that no run reaches raises it. Safe: it stops (log 19). -/
  | noSuchWord
  deriving DecidableEq, Repr

/-- Why the model refuses a command. -/
inductive Refusal
  /-- Raised by `exec` for a row that has no meaning yet. Safe. No row of the table is refused: all have their meaning. -/
  | notModelled (mnemonic : String)
  deriving DecidableEq, Repr

/-- The default parameters (R192's table). -/
def Params.default : Params :=
  { arrays := .one, suspectAt := 2, rowLanes := 2, laneRows := 4, autoSub := true, autoSteer := true,
    repairRead := true, scrubInterval := 0, highWater := 12 }

/-- The state right after a power-on reset (R160; each field's rule in INVENTORY.md). -/
def State.reset : State :=
  { params := Params.default
    mem := []
    epoch := 0
    turns := Vector.replicate 8 none
    map := { slots := Vector.replicate 64 none, recency := [] }
    subs := { table := Vector.replicate 32 none, spares := Vector.replicate 8 (Vector.replicate 16 .free) }
    steer := Vector.replicate 8 .normal
    scrub := { cursor := { array := 0, row := 0, column := 0 }, pass := 0, timer := 0, claim := false, fill := none }
    queue := []
    port := { reads := [], waiting := none, nextPlace := 0, answers := [] }
    path := { path := .hold, resume := .setup, lastQuiet := .noOutcome, retentionExit := false,
              causes := { flags := 1, last := .powerOn } }
    alert := { flags := 0, enables := 0, master := false }
    link := { receiver := .awaitMarker, lock := none, store := none, responses := [] }
    busReset := false
    supplyWarning := false
    pending := [] }

end Sys2Proof.Machine
end

