-- ==== Sys2Proof/Machine/Flags.lean ====
section
/-! DEFINITION. Alert flags, the alert condition and line (spec/11), the cause flags (spec/10 R171), and the one change of
path state an alert causes: the beginning of a wake in QUIET (R165, R175). -/

namespace Sys2Proof.Machine

/-- The mask bit of a flag (13.5). -/
def AlertFlag.bit : AlertFlag → Nat
  | .fixed => 0 | .fault => 1 | .poisonIn => 2 | .mapFull => 3 | .condemned => 4 | .spareDone => 5
  | .noSpare => 6 | .pass => 7 | .fillDone => 8 | .supply => 9 | .link => 10

/-- The flag as a mask. -/
def AlertFlag.mask (f : AlertFlag) : BitVec 11 := BitVec.twoPow 11 f.bit

/-- The alert condition: the master enable on and some set flag with its enable on (R174). -/
def alertCondition (u : AlertUnit) : Bool := u.master && (u.flags &&& u.enables) != 0

/-- The alert line: asserted while the condition holds, outside HOLD (R174). -/
def alertLine (s : State) : Bool := s.path.path != .hold && alertCondition s.alert

/-- The beginning of a wake: the path state becomes WAKING (R165). -/
def beginWake (s : State) : State := { s with path := { s.path with path := .waking } }

/-- A change of the Alert Unit, with the re-evaluation of the condition (R174): coming to hold in QUIET, it begins a wake
(R165, R175). -/
def changeAlert (u : AlertUnit) (s : State) : State :=
  if s.path.path = .quiet ∧ alertCondition s.alert = false ∧ alertCondition u = true then
    beginWake { s with alert := u }
  else { s with alert := u }

/-- A block's request to raise a flag (R173). -/
def raise (f : AlertFlag) (s : State) : State :=
  changeAlert { s.alert with flags := s.alert.flags ||| f.mask } s

/-- The cause mask bit of a reset cause (13.5). -/
def ResetCause.bit : ResetCause → Nat
  | .powerOn => 0 | .supplyDip => 1 | .busReset => 2 | .restart => 3

/-- The last cause code (13.5). -/
def ResetCause.code : ResetCause → Byte
  | .powerOn => 0x00 | .supplyDip => 0x01 | .busReset => 0x02 | .restart => 0x03

/-- A cause other than power-on in the reset-cause record: its flag set, the others as they were (R171). -/
def CauseRecord.record (c : ResetCause) (r : CauseRecord) : CauseRecord :=
  { flags := r.flags ||| BitVec.twoPow 4 c.bit, last := c }

/-- A cause recorded by the Path Controller (R171). -/
def recordCause (c : ResetCause) (s : State) : State :=
  { s with path := { s.path with causes := s.path.causes.record c } }

end Sys2Proof.Machine
end

