-- ==== Sys2Proof/Machine/CheckCode.lean ====
section
/-! DEFINITION. The Check Code Unit (spec/01): lane codes, encoding, decoding, host byte parity; and the merging of bytes
under a mask (spec/08 R127, R132; spec/03 R38). -/

namespace Sys2Proof.Machine

/-! ## Lane codes (R2, R3) -/

/-- The codes of lanes 0 to 71 (R2's table). -/
def laneCodes : List Byte :=
  [0x07, 0x0B, 0x0D, 0x0E, 0x13, 0x15, 0x16, 0x19,
   0x1A, 0x1C, 0x23, 0x25, 0x26, 0x29, 0x2A, 0x2C,
   0x31, 0x32, 0x34, 0x38, 0x43, 0x45, 0x46, 0x49,
   0x4A, 0x4C, 0x51, 0x52, 0x54, 0x58, 0x61, 0x62,
   0x64, 0x68, 0x70, 0x83, 0x85, 0x86, 0x89, 0x8A,
   0x8C, 0x91, 0x92, 0x94, 0x98, 0xA1, 0xA2, 0xA4,
   0xA8, 0xB0, 0xC1, 0xC2, 0xC4, 0xC8, 0xD0, 0xE0,
   0x1F, 0x2F, 0x37, 0x3B, 0x3D, 0x3E, 0x4F, 0x57,
   0x01, 0x02, 0x04, 0x08, 0x10, 0x20, 0x40, 0x80]

/-- The code of coded lane `n` (R2). -/
def laneCode (n : Nat) : Byte := laneCodes.getD n 0

/-- The coded lane whose code is `b`, where there is one (R2). -/
def laneOfCode (b : Byte) : Option CodedLane := (List.finRange 72).find? (fun n => laneCode n.val == b)

/-- The exclusive-or of the codes of the data lanes below `n` that hold 1. -/
def dataCheckBelow : Nat → Data → Byte
  | 0, _ => 0
  | n + 1, d => (if d.getLsbD n then laneCode n else 0) ^^^ dataCheckBelow n d

/-- The data check value (R3). -/
def dataCheck (d : Data) : Byte := dataCheckBelow 64 d

/-- The inversion mask M (1.3). -/
def inversionMask : Byte := 0x81

/-- The poison mark P (1.3). -/
def poisonMark : Byte := 0x14

/-! ## Encoding (R4, R5, R25) -/

/-- The check field written with `d`: clean (R4) or poisoned (R5). -/
def checkField (d : Data) (poisoned : Bool) : Byte :=
  dataCheck d ^^^ inversionMask ^^^ (if poisoned then poisonMark else 0)

/-- The 72 coded lanes of `d`, clean (R4) or poisoned (R5). -/
def encode (d : Data) (poisoned : Bool) : Coded := checkField d poisoned ++ d

/-- The lane a steering record names (R94). -/
def namedLane (r : SteerRecord) : Option CodedLane :=
  match r with
  | .normal => none
  | .migrating k _ _ => some k
  | .steered k _ => some k

/-- The stored word of 72 coded lanes under a steering record: lane 72 is zero under NORMAL and the value written on the
named lane otherwise, whatever the cursor and index (R25). -/
def withSpareLane (r : SteerRecord) (c : Coded) : Stored :=
  BitVec.ofBool (match namedLane r with
    | none => false
    | some k => c.getLsbD k.val) ++ c

/-- The stored word a turn writes for `d` (R4, R5, R25). -/
def storedWord (r : SteerRecord) (d : Data) (poisoned : Bool) : Stored := withSpareLane r (encode d poisoned)

/-! ## Decoding (R6, R7, R8, R24) -/

/-- The coded lane that lane 72 supplies for the word at physical index `i` (R24). -/
def laneChoice (r : SteerRecord) (i : Nat) : Option CodedLane :=
  match r with
  | .normal => none
  | .migrating k c _ => if i < c then some k else none
  | .steered k _ => some k

/-- `c` with lane `k` set to `b`. -/
def setLane (c : Coded) (k : CodedLane) (b : Bool) : Coded :=
  (c &&& ~~~(BitVec.twoPow 72 k.val)) ||| (if b then BitVec.twoPow 72 k.val else 0)

/-- The lanes read from a stored word under a lane choice (R1, R24). -/
def lanesRead (w : Stored) (choice : Option CodedLane) : Coded :=
  match choice with
  | none => w.setWidth 72
  | some k => setLane (w.setWidth 72) k (w.getLsbD 72)

/-- The data lanes of 72 coded lanes (R1). -/
def dataLanes (c : Coded) : Data := c.setWidth 64

/-- The check field of 72 coded lanes (R1). -/
def checkLanes (c : Coded) : Byte := c.extractLsb' 64 8

/-- The syndrome of the lanes read (R6). -/
def syndrome (c : Coded) : Byte := dataCheck (dataLanes c) ^^^ checkLanes c ^^^ inversionMask

/-- The five classes of a stored word read; FIXED names a coded lane (R7). -/
inductive WordClass
  | good
  | fixed (lane : CodedLane)
  | poison
  | blank
  | fault
  deriving DecidableEq, Repr

/-- The class of the lanes read (R7). -/
def classify (c : Coded) : WordClass :=
  if syndrome c = 0 then .good
  else match laneOfCode (syndrome c) with
    | some n => .fixed n
    | none =>
      if syndrome c = poisonMark then .poison
      else if syndrome c = inversionMask ∧ c = 0 then .blank
      else .fault

/-- The lanes read with lane `n` inverted: the corrected word of a FIXED decode (R8). -/
def invertLane (c : Coded) (n : CodedLane) : Coded := c ^^^ BitVec.twoPow 72 n.val

/-- The data delivered with a class (R7): for FIXED the corrected data, for the other classes the data lanes read. -/
def delivered (c : Coded) : WordClass → Data
  | .fixed n => dataLanes (invertLane c n)
  | .good | .poison | .blank | .fault => dataLanes c

/-- What the Check Code Unit hands to the turn that read a word (R8), with the lane choice made for it (R24). -/
structure Decoded where
  cls : WordClass
  lanes : Coded
  data : Data
  choice : Option CodedLane
  deriving DecidableEq, Repr

/-- The decode of the stored word `w` read at physical index `i` under steering record `r` (R24, R6, R7). -/
def decodeWord (r : SteerRecord) (i : Nat) (w : Stored) : Decoded :=
  let lanes := lanesRead w (laneChoice r i)
  { cls := classify lanes, lanes := lanes, data := delivered lanes (classify lanes), choice := laneChoice r i }

/-- The physical lane a FIXED decode is charged to: 72 when lane 72 supplied the named lane (R26). -/
def chargedLane (choice : Option CodedLane) (n : CodedLane) : PhysLane :=
  if choice = some n then 72 else n.castSucc

/-- The error a decode reports: none for GOOD and POISON (R43, R26). -/
def Decoded.error (d : Decoded) : Option ErrorClass :=
  match d.cls with
  | .good | .poison => none
  | .fixed n => some (.fixed (chargedLane d.choice n))
  | .blank => some .blank
  | .fault => some .fault

/-- The turns that must write a word found bad write it poisoned (R38, R39, R40): POISON, BLANK and FAULT. -/
def Decoded.bad (d : Decoded) : Bool :=
  match d.cls with
  | .good | .fixed _ => false
  | .poison | .blank | .fault => true

/-- The class codes (13.5). -/
def WordClass.code : WordClass → Byte
  | .good => 0x00
  | .fixed _ => 0x01
  | .poison => 0x02
  | .blank => 0x03
  | .fault => 0x04

/-! ## Bytes of a word and host byte parity (R10, R11) -/

/-- Byte `b` of a word (R1). -/
def byteOf (d : Data) (b : Nat) : Byte := d.extractLsb' (8 * b) 8

/-- Whether a byte holds an odd number of ones. -/
def onesOdd (b : Byte) : Bool := (List.range 8).foldl (fun acc i => acc ^^ b.getLsbD i) false

/-- One bit for each byte of a word. -/
def perByte (f : Nat → Bool) : Byte :=
  (List.range 8).foldl (fun acc b => if f b then acc ||| BitVec.twoPow 8 b else acc) 0

/-- The parity bits that put every byte of `d` in odd parity (R10). -/
def oddParity (d : Data) : Byte := perByte (fun b => !onesOdd (byteOf d b))

/-- The parity bits sent with `d`: odd parity for good data, the inverse otherwise (R10). -/
def sentParity (d : Data) (goodData : Bool) : Byte := if goodData then oddParity d else ~~~(oddParity d)

/-- Whether some byte under `mask` fails its parity: data and parity bit together hold an even number of ones (R11). -/
def parityFails (mask : Byte) (data : Data) (parity : Byte) : Bool :=
  (List.range 8).any (fun b => mask.getLsbD b && (onesOdd (byteOf data b) == parity.getLsbD b))

/-- The data bits of the bytes under `mask`. -/
def maskBits (mask : Byte) : Data :=
  (List.range 8).foldl (fun acc b => if mask.getLsbD b then acc ||| ((0xFF : Data) <<< (8 * b)) else acc) 0

/-- The bytes of `new` under `mask` and those of `old` elsewhere (R127, R132, R38). -/
def mergeBytes (mask : Byte) (new old : Data) : Data :=
  (new &&& maskBits mask) ||| (old &&& ~~~(maskBits mask))

/-- A mask with all eight bytes (R124). -/
def fullMask : Byte := 0xFF

end Sys2Proof.Machine
end

