-- ==== Sys2Proof/Machine/Operands.lean ====
section
/-! DEFINITION. The Resolver (spec/02): installed arrays, home locations, row choice, and the physical words a turn names
(R16 to R28); and the numbers the link names arrays, lanes, spares and entries by. -/

namespace Sys2Proof.Machine

/-- The number of installed arrays (R16). -/
def ArrayCount.count : ArrayCount → Nat
  | .one => 1 | .two => 2 | .four => 4 | .eight => 8

/-- The setting a value of ARRAYS names (R16). -/
def ArrayCount.ofNat? (n : Nat) : Option ArrayCount :=
  if n = 1 then some .one else if n = 2 then some .two else if n = 4 then some .four
  else if n = 8 then some .eight else none

/-- Whether an array is installed: among 0 to ARRAYS − 1 (R16). -/
def installed (s : State) (a : ArrayNo) : Bool := a.val < s.params.arrays.count

/-- The number `n` as an index below `k`, where it is one. -/
def finOf? (k n : Nat) : Option (Fin k) := if h : n < k then some ⟨n, h⟩ else none

/-- The array a link argument names, when it is installed (R44, R87, R89, R90, R106, R107, R108). -/
def installedArg (s : State) (n : Nat) : Option ArrayNo :=
  match finOf? 8 n with
  | some a => if installed s a then some a else none
  | none => none

/-- Whether a host word address is in range (R20). -/
def inRange (n : ArrayCount) (w : BitVec 28) : Bool := w.toNat < n.count * hostWordsPerArray

/-- The home location of a host word address (R19). -/
def homeOf (n : ArrayCount) (w : BitVec 28) : Home :=
  { array := Fin.ofNat 8 (w.toNat % n.count)
    row := (w.toNat / n.count) / columns
    column := (w.toNat / n.count) % columns }

/-- The physical row of a spare (R17). -/
def spareRow (t : SpareNo) : Nat := hostRows + t.val

/-- The spare a physical row is, for rows 32,768 to 32,783 (R17). -/
def spareOfRow (row : Nat) : Option SpareNo := if hostRows ≤ row then finOf? 16 (row - hostRows) else none

/-- The physical word at a row and column of an array (R17): none where the array has no such word. -/
def wordAt (row column : Nat) : Option PhysIndex :=
  if column < columns ∧ row < physRows then finOf? wordsPerArray (row * columns + column) else none

/-- The physical row of a physical word (R17). -/
def rowOf (i : PhysIndex) : Nat := i.val / columns

/-- The column of a physical word (R17). -/
def columnOf (i : PhysIndex) : Nat := i.val % columns

/-- The lowest-numbered entry of the Substitution Table that is not FREE and has the property. -/
def entryWhere (s : State) (p : SubEntry → Bool) : Option (Fin 32 × SubEntry) :=
  (List.finRange 32).findSome? (fun i =>
    match s.subs.table.get i with
    | some e => if p e then some (i, e) else none
    | none => none)

/-- The entry that serves a host row of an array (R22: at most one). -/
def entryFor (s : State) (a : ArrayNo) (row : Nat) : Option (Fin 32 × SubEntry) :=
  entryWhere s (fun e => decide (e.array = a ∧ e.hostRow = row))

/-- The row a copy reads from (R73). -/
def sourceRow (e : SubEntry) (src : CopySource) : Nat :=
  match src with
  | .hostRow => e.hostRow
  | .spare t => spareRow t

/-- The physical row to read for a host row and column (R22). -/
def readRow (s : State) (a : ArrayNo) (row column : Nat) : Nat :=
  match entryFor s a row with
  | none => row
  | some (_, e) =>
    match e.phase with
    | .active => spareRow e.target
    | .copying src c => if column < c then spareRow e.target else sourceRow e src

/-- The physical rows a drain writes for a host row and column (R23). -/
def writeRows (s : State) (a : ArrayNo) (row column : Nat) : List Nat :=
  match entryFor s a row with
  | none => [row]
  | some (_, e) =>
    match e.phase with
    | .active => [spareRow e.target]
    | .copying src c => if column < c then [sourceRow e src, spareRow e.target] else [sourceRow e src]

/-- The physical row a SCRUB turn reads at a row of the walk (R114). -/
def scrubRow (s : State) (a : ArrayNo) (row : Nat) : Nat :=
  if hostRows ≤ row then row
  else match entryFor s a row with
    | none => row
    | some (_, e) =>
      match e.phase with
      | .active => spareRow e.target
      | .copying src _ => sourceRow e src

end Sys2Proof.Machine
end

