-- ==== Sys2Proof/Machine/Ops.lean ====
section
/-! DEFINITION. The named operations that several commands share: reading and writing the arrays, setting a turn, sending
answers and responses, moving the path state. -/

namespace Sys2Proof.Machine

/-! ## The arrays (spec/02 R17; log 4) -/

/-- The key of a physical word: distinct for distinct arrays and indices. -/
def memKey (a : ArrayNo) (i : PhysIndex) : Nat := a.val + 8 * i.val

/-- The word listed under a key, if one is. -/
def memFind (k : Nat) : List (Nat × Stored) → Option Stored
  | [] => none
  | (k', w) :: m => if k = k' then some w else memFind k m

/-- The list with `w` under `k`, keys kept strictly rising. -/
def memPut (k : Nat) (w : Stored) : List (Nat × Stored) → List (Nat × Stored)
  | [] => [(k, w)]
  | (k', w') :: m =>
    if k < k' then (k, w) :: (k', w') :: m
    else if k = k' then (k, w) :: m
    else (k', w') :: memPut k w m

/-- The canonical form: keys strictly rising. An unlisted word has no value of its own (log 4), so no entry repeats one. -/
abbrev Memory.wf (m : List (Nat × Stored)) : Prop := m.Pairwise (fun x y => x.1 < y.1)

/-- The stored word at an array and physical index: the word last written there, or the free value of the arrays'
undefined contents where no turn has written since the last power-on or supply dip (R160; log 4). -/
def State.word (s : State) (a : ArrayNo) (i : PhysIndex) : Stored :=
  (memFind (memKey a i) s.mem).getD (Config.undefinedWord s.epoch a.val i.val)

/-- A write of a stored word. -/
def State.setWord (a : ArrayNo) (i : PhysIndex) (w : Stored) (s : State) : State :=
  { s with mem := memPut (memKey a i) w s.mem }

/-- The array at the moment a turn reads it: the lanes `flips` of the word have changed since it was written (R9; log 3). -/
def disturb (a : ArrayNo) (i : PhysIndex) (flips : Stored) (s : State) : State :=
  if flips = 0 then s else s.setWord a i (s.word a i ^^^ flips)

/-! ## Turns (spec/03 R29, R34) -/

/-- The turn in progress at an array. -/
def State.turn (s : State) (a : ArrayNo) : Option Turn := s.turns.get a

/-- The state with `t` as the turn in progress at `a`. -/
def State.setTurn (a : ArrayNo) (t : Option Turn) (s : State) : State := { s with turns := s.turns.set a.val t a.isLt }

/-- The work of the turn in progress at `a` changed by `f`. -/
def mapTurn (a : ArrayNo) (f : TurnWork → TurnWork) (s : State) : State :=
  match s.turn a with
  | none => s
  | some t => s.setTurn a (some { t with work := f t.work })

/-! ## The host memory port's answers (spec/09 R152, R153) -/

/-- An answer sent to the bus (log 10). -/
def answer (x : PortAnswer) (s : State) : State := { s with port := { s.port with answers := s.port.answers ++ [x] } }

/-- Whether a status goes with good data (R10). -/
def ReadStatus.goodData : ReadStatus → Bool
  | .good | .fixed => true
  | .poison | .blank | .fault | .range | .closed | .tagClash => false

/-- A read answered with data: parity follows the status (R10, R152). -/
def answerRead (tag : BitVec 4) (data : Data) (st : ReadStatus) (s : State) : State :=
  answer (.read tag data (sentParity data st.goodData) st) s

/-- A request answered CLOSED: a read with eight zero bytes in even parity, a write with the acknowledgement alone
(R144, R152, R153). -/
def answerClosed (r : Request) (s : State) : State :=
  match r with
  | .read tag _ => answerRead tag 0 .closed s
  | .write _ _ _ _ => answer (.write .closed) s

/-! ## Link responses (spec/12 R184, R186) -/

/-- A response formed and queued for the response line, without touching the store (R184). -/
def respond (r : Response) (s : State) : State := { s with link := { s.link with responses := s.link.responses ++ [r] } }

/-- The response of an executed command: formed, and put in the last-response store (R186). -/
def reply (seq : Byte) (st : LinkStatus) (result : List Byte) (s : State) : State :=
  let r : Response := { seq := seq, status := st, result := result }
  { s with link := { s.link with responses := s.link.responses ++ [r], store := some r } }

/-- The lock released (R187). -/
def unlock (s : State) : State := { s with link := { s.link with lock := none } }

/-- The withheld reply of a QUIESCE, and its lock released (R187). -/
def answerQuiesce (st : LinkStatus) (s : State) : State :=
  match s.link.lock with
  | some { seq := q, command := .quiesce } => unlock (reply q st [] s)
  | _ => s

/-! ## The path state (spec/10 R157) -/

/-- The resume state after entering `p`: SETUP, FILLING and OPEN set it, the other states keep it (R157). -/
def resumeAfter (p : PathState) (r : ResumeState) : ResumeState :=
  match p with
  | .setup => .setup
  | .filling => .filling
  | .opened => .opened
  | .hold | .enteringQuiet | .quiet | .waking | .draining | .frozen => r

/-- The path state a resume state names (R157). -/
def ResumeState.path : ResumeState → PathState
  | .setup => .setup
  | .filling => .filling
  | .opened => .opened

/-- The path state set to `p` (R157). -/
def moveTo (p : PathState) (s : State) : State :=
  { s with path := { s.path with path := p, resume := resumeAfter p s.path.resume } }

/-- The last quiet outcome set (R157). -/
def setQuietOutcome (q : QuietOutcome) (s : State) : State := { s with path := { s.path with lastQuiet := q } }

/-- ENTERING-QUIET abandoned: OPEN, QUIESCE answered ABANDONED, the outcome kept (R164). -/
def abandonQuiet (s : State) : State :=
  answerQuiesce .abandoned (setQuietOutcome .abandoned (moveTo .opened s))

/-- A waiting PEEK claim withdrawn and answered REFUSED-STATE, as on entry to DRAINING (R46). -/
def withdrawPeek (s : State) : State :=
  match s.link.lock with
  | some { seq := q, command := .peek _ _ false } => unlock (reply q .refusedState [] s)
  | _ => s

/-- Whether every sequencer of an installed array is idle (R158). -/
def allIdle (s : State) : Bool := (List.finRange 8).all (fun a => !installed s a || (s.turn a).isNone)

/-- Whether the part is still (R158). -/
def still (s : State) : Bool := s.queue.isEmpty && s.port.reads.isEmpty && allIdle s

end Sys2Proof.Machine
end

