-- ==== Sys2Proof/Machine/MapTable.lean ====
section
/-! DEFINITION. The Fault Map as a table (spec/04): slots, recency order, recording, marking, aging, purging. What a
recorded occurrence sets off stands in FaultMap.lean. -/

namespace Sys2Proof.Machine

/-- The entry in a slot. -/
def FaultMap.slot (m : FaultMap) (i : Fin 64) : Option MapEntry := m.slots.get i

/-- The table with `e` in slot `i`; the recency order is left to the caller. -/
def FaultMap.setSlot (m : FaultMap) (i : Fin 64) (e : Option MapEntry) : FaultMap :=
  { m with slots := m.slots.set i.val e i.isLt }

/-- The slot moved to, or joined at, the most recent position (R51). -/
def FaultMap.touch (m : FaultMap) (i : Fin 64) : FaultMap := { m with recency := m.recency.erase i ++ [i] }

/-- Every entry with the property removed, its slot emptied and its place in the recency order closed up (R51). -/
def FaultMap.removeWhere (m : FaultMap) (p : MapEntry → Bool) : FaultMap :=
  { slots := m.slots.map (fun o => match o with
      | some e => if p e then none else some e
      | none => none)
    recency := m.recency.filter (fun i => match m.slot i with
      | some e => !p e
      | none => true) }

/-- One slot emptied (R70). -/
def FaultMap.removeSlot (m : FaultMap) (i : Fin 64) : FaultMap :=
  { slots := m.slots.set i.val none i.isLt, recency := m.recency.erase i }

/-- The number of occupied slots, the map occupancy (R49). -/
def FaultMap.occupancy (m : FaultMap) : Nat := (List.finRange 64).countP (fun i => (m.slot i).isSome)

/-- The number of entries with a property. -/
def FaultMap.countWhere (m : FaultMap) (p : MapEntry → Bool) : Nat :=
  (List.finRange 64).countP (fun i => match m.slot i with
    | some e => p e
    | none => false)

/-- The physical lane of an occurrence's key: the lane for FIXED, absent for FAULT and BLANK (R52). -/
def ErrorClass.lane : ErrorClass → Option PhysLane
  | .fixed l => some l
  | .blank | .fault => none

/-- The last uncorrectable class an occurrence leaves (R50, R53). -/
def ErrorClass.uncorrectable : ErrorClass → Option Uncorrectable
  | .fixed _ => none
  | .blank => some .blank
  | .fault => some .fault

/-- Whether an entry has an occurrence's key (R49, R52). -/
def Occurrence.hasKey (o : Occurrence) (e : MapEntry) : Bool :=
  decide (e.array = o.array ∧ e.row = o.row ∧ e.lane = o.error.lane)

/-- The slot of the entry with an occurrence's key, with the entry (R49: at most one). -/
def FaultMap.findKey (m : FaultMap) (o : Occurrence) : Option (Fin 64 × MapEntry) :=
  (List.finRange 64).findSome? (fun i =>
    match m.slot i with
    | some e => if o.hasKey e then some (i, e) else none
    | none => none)

/-- The lowest-numbered empty slot (R49, R54). -/
def FaultMap.emptySlot (m : FaultMap) : Option (Fin 64) := (List.finRange 64).find? (fun i => (m.slot i).isNone)

/-- The slot of the WATCH entry that stands least recent in the recency order (R55). -/
def FaultMap.evictable (m : FaultMap) : Option (Fin 64) :=
  m.recency.find? (fun i => match m.slot i with
    | some e => e.state == .watch
    | none => false)

/-- The state an entry has after its occurrences is set: a WATCH entry at SUSPECT-AT or above becomes SUSPECT (R58). -/
def testSuspect (suspectAt occurrences : Nat) : EntryState → EntryState
  | .watch => if suspectAt ≤ occurrences then .suspect else .watch
  | .suspect => .suspect
  | .condemned => .condemned

/-- An entry updated by an occurrence on its key (R53, R58). -/
def MapEntry.update (suspectAt : Nat) (pass : BitVec 16) (o : Occurrence) (e : MapEntry) : MapEntry :=
  let n := if e.occurrences = 15 then 15 else e.occurrences + 1
  { e with
    occurrences := n
    lastColumn := o.column
    lastPass := pass
    lastOrigin := o.origin
    state := testSuspect suspectAt n e.state
    lastClass := match e.lane with
      | some _ => e.lastClass
      | none => o.error.uncorrectable }

/-- The entry an occurrence on a new key creates (R54, R58). -/
def MapEntry.create (suspectAt : Nat) (pass : BitVec 16) (o : Occurrence) : MapEntry :=
  { array := o.array
    row := o.row
    lane := o.error.lane
    occurrences := 1
    lastColumn := o.column
    firstPass := pass
    lastPass := pass
    lastOrigin := o.origin
    state := match o.error with
      | .fixed _ => testSuspect suspectAt 1 .watch
      | .blank | .fault => .suspect
    lastClass := o.error.uncorrectable }

/-- The outcome of recording an occurrence: the table afterwards, or not recorded (R56); with it whether an entry with a
lane present became SUSPECT (R58, R61, R62). -/
inductive Recording
  | recorded (m : FaultMap) (becameSuspect : Bool)
  | lost
  deriving DecidableEq, Repr

/-- An occurrence recorded by update (R53), by creation in an empty slot (R54), by eviction (R55), or not at all (R56). -/
def FaultMap.recordKey (suspectAt : Nat) (pass : BitVec 16) (o : Occurrence) (m : FaultMap) : Recording :=
  match m.findKey o with
  | some (i, e) =>
    let e' := e.update suspectAt pass o
    .recorded ((m.setSlot i (some e')).touch i) (e.state == .watch && e'.state == .suspect)
  | none =>
    let e := MapEntry.create suspectAt pass o
    let became := e.lane.isSome && e.state == .suspect
    match m.emptySlot with
    | some i => .recorded ((m.setSlot i (some e)).touch i) became
    | none =>
      match m.evictable with
      | some i => .recorded ((m.setSlot i (some e)).touch i) became
      | none => .lost

/-- Whether an entry describes a row, with any lane or none (R63, R67). -/
def MapEntry.inRow (a : ArrayNo) (row : Nat) (e : MapEntry) : Bool := decide (e.array = a ∧ e.row = row)

/-- Whether an entry describes a lane of an array, in any row (R63, R68). -/
def MapEntry.inLane (a : ArrayNo) (l : PhysLane) (e : MapEntry) : Bool := decide (e.array = a ∧ e.lane = some l)

/-- Every entry with the property set to CONDEMNED, fields and recency kept (R63). -/
def FaultMap.condemnWhere (m : FaultMap) (p : MapEntry → Bool) : FaultMap :=
  { m with slots := m.slots.map (fun o => match o with
      | some e => if p e then some { e with state := .condemned } else some e
      | none => none) }

/-- The SUSPECT entries of a row with a lane present, which R61 counts. -/
def FaultMap.suspectLanes (m : FaultMap) (a : ArrayNo) (row : Nat) : Nat :=
  m.countWhere (fun e => e.inRow a row && e.lane.isSome && e.state == .suspect)

/-- The SUSPECT entries of a lane of an array, which R62 counts. -/
def FaultMap.suspectRows (m : FaultMap) (a : ArrayNo) (l : PhysLane) : Nat :=
  m.countWhere (fun e => e.inLane a l && e.state == .suspect)

/-- Whether aging at the completion of pass `p` removes an entry: a WATCH entry not updated in `p` whose count halves to
zero (R65). -/
def MapEntry.agesOut (p : BitVec 16) (e : MapEntry) : Bool :=
  e.state == .watch && e.lastPass != p && e.occurrences / 2 == 0

/-- An entry after aging at the completion of pass `p` (R65). -/
def MapEntry.age (p : BitVec 16) (e : MapEntry) : MapEntry :=
  if e.state = .watch ∧ e.lastPass ≠ p then { e with occurrences := e.occurrences / 2 } else e

/-- Aging at the completion of pass `p` (R65). -/
def FaultMap.aged (p : BitVec 16) (m : FaultMap) : FaultMap :=
  let m' := m.removeWhere (MapEntry.agesOut p)
  { m' with slots := m'.slots.map (Option.map (MapEntry.age p)) }

/-- The map with no entry (R71, R72). -/
def FaultMap.emptied : FaultMap := { slots := Vector.replicate 64 none, recency := [] }

/-- The purge that follows a completed row copy (R67). -/
def purgeRow (a : ArrayNo) (row : Nat) (s : State) : State := { s with map := s.map.removeWhere (MapEntry.inRow a row) }

/-- The purge that follows a completed lane migration (R68). -/
def purgeLane (a : ArrayNo) (k : CodedLane) (s : State) : State :=
  { s with map := s.map.removeWhere (MapEntry.inLane a k.castSucc) }

end Sys2Proof.Machine
end

