-- ==== Sys2Proof/Machine/RowSub.lean ====
section
/-! DEFINITION. The Row Substitution Engine (spec/05): spares, condemnations of rows, and the result of a COPY turn. -/

namespace Sys2Proof.Machine

/-- What a condemnation comes to (R76, R87, R96, R106). -/
inductive RepairOutcome
  /-- A copy, a re-target, a restart or a migration was started. -/
  | started
  /-- No spare, entry or spare lane was free, or the copy was abandoned. -/
  | noSpare
  /-- The condemnation was ignored, or AUTO-SUB or AUTO-STEER is 0. -/
  | ignored
  deriving DecidableEq, Repr

/-- The status of a spare (R74). -/
def State.spare (s : State) (a : ArrayNo) (t : SpareNo) : SpareStatus := (s.subs.spares.get a).get t

/-- The status of a spare set (R74). -/
def setSpare (a : ArrayNo) (t : SpareNo) (st : SpareStatus) (s : State) : State :=
  { s with subs := { s.subs with spares := s.subs.spares.set a.val ((s.subs.spares.get a).set t.val st t.isLt) a.isLt } }

/-- An entry of the Substitution Table set; absent is FREE (R73). -/
def setEntry (i : Fin 32) (e : Option SubEntry) (s : State) : State :=
  { s with subs := { s.subs with table := s.subs.table.set i.val e i.isLt } }

/-- The lowest-numbered FREE spare of an array (R74). -/
def freeSpare (s : State) (a : ArrayNo) : Option SpareNo := (List.finRange 16).find? (fun t => s.spare a t == .free)

/-- The lowest-numbered FREE entry of the table (R74). -/
def freeEntry (s : State) : Option (Fin 32) := (List.finRange 32).find? (fun i => (s.subs.table.get i).isNone)

/-- The number of entries that are not FREE (R73). -/
def entryCount (s : State) : Nat := (List.finRange 32).countP (fun i => (s.subs.table.get i).isSome)

/-- Whether an entry is COPYING. -/
def SubEntry.isCopying (e : SubEntry) : Bool :=
  match e.phase with
  | .copying _ _ => true
  | .active => false

/-- Whether a spare is the source of an entry's copy (R74). -/
def SubEntry.sourceIs (t : SpareNo) (e : SubEntry) : Bool :=
  match e.phase with
  | .copying (.spare t') _ => t' == t
  | .copying .hostRow _ => false
  | .active => false

/-- A copy in hand for entry `i` made void (R83). -/
def TurnWork.voidCopy (i : Fin 32) : TurnWork → TurnWork
  | .copy h sw tw => if h.entry = i then .copy { h with void := true } sw tw else .copy h sw tw
  | .hostRead p w r => .hostRead p w r
  | .drain x d m p rw ww => .drain x d m p rw ww
  | .peek w => .peek w
  | .migrate k x v => .migrate k x v
  | .fill x v => .fill x v
  | .scrub w l => .scrub w l

/-- The copy in hand on array `a` made void if it names entry `i` (R83). -/
def voidCopy (a : ArrayNo) (i : Fin 32) (s : State) : State := mapTurn a (TurnWork.voidCopy i) s

/-- A condemned host row (R77, R78). -/
def condemnHostRow (auto : Bool) (a : ArrayNo) (row : Nat) (s : State) : State × RepairOutcome :=
  match entryFor s a row with
  | some _ => (s, .ignored)
  | none =>
    if auto && !s.params.autoSub then (s, .ignored)
    else match freeEntry s, freeSpare s a with
      | some i, some t =>
        (setEntry i (some { array := a, hostRow := row, phase := .copying .hostRow 0, target := t,
                            origin := if auto then .auto else .host }) (setSpare a t .inUse s), .started)
      | _, _ => (raise .noSpare s, .noSpare)

/-- A condemned target of an ACTIVE entry: the re-target (R79). -/
def retarget (auto : Bool) (a : ArrayNo) (i : Fin 32) (e : SubEntry) (s : State) : State × RepairOutcome :=
  if auto && !s.params.autoSub then (s, .ignored)
  else match freeSpare s a with
    | some t =>
      (setEntry i (some { e with phase := .copying (.spare e.target) 0, target := t,
                                 origin := if auto then .auto else .host }) (setSpare a t .inUse s), .started)
    | none => (raise .noSpare s, .noSpare)

/-- What is left of a COPYING entry whose copy is abandoned or cancelled: FREE, or ACTIVE on its source spare (R80, R88). -/
def SubEntry.givenUp (e : SubEntry) (src : CopySource) : Option SubEntry :=
  match src with
  | .hostRow => none
  | .spare t => some { e with phase := .active, target := t }

/-- A condemned target of a COPYING entry: retired, and the copy restarted or abandoned, whatever AUTO-SUB (R80). -/
def replaceTarget (a : ArrayNo) (i : Fin 32) (e : SubEntry) (src : CopySource) (s : State) : State × RepairOutcome :=
  let s1 := voidCopy a i (setSpare a e.target .retired s)
  match freeSpare s1 a with
  | some t => (setEntry i (some { e with phase := .copying src 0, target := t }) (setSpare a t .inUse s1), .started)
  | none => (raise .noSpare (setEntry i (e.givenUp src) s1), .noSpare)

/-- A condemned spare row (R79, R80, R81). -/
def condemnSpare (auto : Bool) (a : ArrayNo) (t : SpareNo) (s : State) : State × RepairOutcome :=
  match entryWhere s (fun e => decide (e.array = a ∧ e.target = t)) with
  | none => (s, .ignored)
  | some (i, e) =>
    match e.phase with
    | .active => retarget auto a i e s
    | .copying src _ => replaceTarget a i e src s

/-- A condemnation of a physical row, automatic or commanded (R76's table). -/
def condemnRowEngine (auto : Bool) (a : ArrayNo) (row : Nat) (s : State) : State × RepairOutcome :=
  if row < hostRows then condemnHostRow auto a row s
  else match spareOfRow row with
    | some t => condemnSpare auto a t s
    | none => (s, .ignored)

/-- The source spare of a completed copy leaves service (R85 step 2). -/
def retireSource (a : ArrayNo) (src : CopySource) (s : State) : State :=
  match src with
  | .hostRow => s
  | .spare t => setSpare a t .retired s

/-- The completion of a copy (R85, in its order). -/
def completeCopy (i : Fin 32) (e : SubEntry) (src : CopySource) (s : State) : State :=
  raise .spareDone
    (purgeRow e.array (sourceRow e src)
      (retireSource e.array src (setEntry i (some { e with phase := .active }) s)))

/-- The result of a COPY turn reaches the engine (R84). -/
def copyResult (h : CopyHand) (s : State) : State :=
  if h.void then s
  else match s.subs.table.get h.entry with
    | none => s
    | some e =>
      match e.phase with
      | .active => s
      | .copying src _ =>
        if h.column.val + 1 = columns then completeCopy h.entry e src s
        else setEntry h.entry (some { e with phase := .copying src (h.column.val + 1) }) s

end Sys2Proof.Machine
end

