-- ==== Sys2Proof/Machine/LaneSteer.lean ====
section
/-! DEFINITION. The Lane Steering Unit (spec/06): condemnations of lanes and the result of a MIGRATE turn. -/

namespace Sys2Proof.Machine

/-- The steering record of an array (R94). -/
def State.steerOf (s : State) (a : ArrayNo) : SteerRecord := s.steer.get a

/-- The steering record of an array set (R94). -/
def setSteer (a : ArrayNo) (r : SteerRecord) (s : State) : State := { s with steer := s.steer.set a.val r a.isLt }

/-- A migration in hand made void (R101). -/
def TurnWork.voidMigration : TurnWork → TurnWork
  | .migrate k i _ => .migrate k i true
  | .hostRead p w r => .hostRead p w r
  | .drain x d m p rw ww => .drain x d m p rw ww
  | .peek w => .peek w
  | .copy h sw tw => .copy h sw tw
  | .fill x v => .fill x v
  | .scrub w l => .scrub w l

/-- A migration cancelled: the record NORMAL, the migration in hand void (R99, R107). -/
def cancelMigration (a : ArrayNo) (s : State) : State := mapTurn a TurnWork.voidMigration (setSteer a .normal s)

/-- A condemned lane from 0 to 71 (R97, R98). -/
def condemnCodedLane (auto : Bool) (a : ArrayNo) (k : CodedLane) (s : State) : State × RepairOutcome :=
  match namedLane (s.steerOf a) with
  | none =>
    if auto && !s.params.autoSteer then (s, .ignored)
    else (setSteer a (.migrating k 0 (if auto then .auto else .host)) s, .started)
  | some j =>
    if j = k then (s, .ignored)
    else if auto && !s.params.autoSteer then (s, .ignored)
    else (raise .noSpare s, .noSpare)

/-- A condemnation of lane 72, whatever AUTO-STEER (R99). -/
def condemnSpareLane (a : ArrayNo) (s : State) : State × RepairOutcome :=
  match s.steerOf a with
  | .normal => (s, .ignored)
  | .migrating _ _ _ => (raise .noSpare (cancelMigration a s), .noSpare)
  | .steered _ _ => (raise .noSpare s, .noSpare)

/-- A condemnation of a physical lane (R96's table). -/
def condemnLaneEngine (auto : Bool) (a : ArrayNo) (l : PhysLane) (s : State) : State × RepairOutcome :=
  match finOf? 72 l.val with
  | some k => condemnCodedLane auto a k s
  | none => condemnSpareLane a s

/-- The result of a MIGRATE turn reaches the unit: the cursor, or the completion of R103 (R102). -/
def migrateResult (a : ArrayNo) (index : PhysIndex) (void : Bool) (s : State) : State :=
  if void then s
  else match s.steerOf a with
    | .normal => s
    | .steered _ _ => s
    | .migrating k _ o =>
      if index.val + 1 = wordsPerArray then
        raise .spareDone (purgeLane a k (setSteer a (.steered k o) s))
      else setSteer a (.migrating k (index.val + 1) o) s

end Sys2Proof.Machine
end

