-- ==== Sys2Proof/Machine/FaultMap.lean ====
section
/-! DEFINITION. What an occurrence that reaches the Fault Map does (spec/04 R52 to R63). -/

namespace Sys2Proof.Machine

/-- A row condemned by the Fault Map: its entries marked, the condemnation handed on as automatic, CONDEMNED raised
(R63). -/
def condemnRow (a : ArrayNo) (row : Nat) (s : State) : State :=
  raise .condemned
    (condemnRowEngine true a row { s with map := s.map.condemnWhere (MapEntry.inRow a row) }).1

/-- A lane condemned by the Fault Map (R63). -/
def condemnLane (a : ArrayNo) (l : PhysLane) (s : State) : State :=
  raise .condemned
    (condemnLaneEngine true a l { s with map := s.map.condemnWhere (MapEntry.inLane a l) }).1

/-- The flag every occurrence raises (R57). -/
def ErrorClass.flag : ErrorClass → AlertFlag
  | .fixed _ => .fixed
  | .blank | .fault => .fault

/-- The condemnations an occurrence on a lane sets off once its entry has become SUSPECT: both counts as they stand
before either marks an entry, the row's condemnation first (R61, R62, R63). -/
def laneTriggers (o : Occurrence) (l : PhysLane) (s : State) : State :=
  let rowHit := decide (s.params.rowLanes ≤ s.map.suspectLanes o.array o.row)
  let laneHit := decide (s.params.laneRows ≤ s.map.suspectRows o.array l)
  let s1 := if rowHit then condemnRow o.array o.row s else s
  if laneHit then condemnLane o.array l s1 else s1

/-- The condemnations an occurrence sets off: a FAULT its row, always (R60); a FIXED one those of R61 and R62 when its
entry became SUSPECT; a BLANK one none. -/
def triggers (o : Occurrence) (becameSuspect : Bool) (s : State) : State :=
  match o.error with
  | .fault => condemnRow o.array o.row s
  | .blank => s
  | .fixed l => if becameSuspect then laneTriggers o l s else s

/-- An occurrence delivered to the Fault Map: its flag (R57), its recording (R53 to R56), its condemnations (R60 to R63). -/
def deliver (o : Occurrence) (s : State) : State :=
  let s1 := raise o.error.flag s
  match s1.map.recordKey s1.params.suspectAt s1.scrub.pass o with
  | .recorded m became => triggers o became { s1 with map := m }
  | .lost => triggers o false (raise .mapFull s1)

/-- The occurrence a turn reports for the word it read, if its class calls for one (R26, R43). -/
def report (a : ArrayNo) (i : PhysIndex) (origin : Origin) (d : Decoded) (s : State) : State :=
  match d.error with
  | none => s
  | some e => deliver { array := a, row := rowOf i, column := columnOf i, error := e, origin := origin } s

end Sys2Proof.Machine
end

