-- ==== Sys2Proof/Machine/Scrubber.lean ====
section
/-! DEFINITION. The Scrubber (spec/07): the walk, pass completion, the interval, the fill cursor. -/

namespace Sys2Proof.Machine

/-- Whether the row at the cursor is visited: a host row unless an ACTIVE entry has it, a spare when it is the target of
an ACTIVE entry (R113). -/
def rowVisited (s : State) (a : ArrayNo) (row : Nat) : Bool :=
  if row < hostRows then
    (entryWhere s (fun e => decide (e.array = a ∧ e.hostRow = row) && !e.isCopying)).isNone
  else match spareOfRow row with
    | some t => (entryWhere s (fun e => decide (e.array = a ∧ e.target = t) && !e.isCopying)).isSome
    | none => false

/-- The next installed array after `a`, if there is one (R112). -/
def nextInstalled (s : State) (a : ArrayNo) : Option ArrayNo :=
  match finOf? 8 (a.val + 1) with
  | some b => if installed s b then some b else none
  | none => none

/-- The row where the cursor comes to rest when it arrives at column 0 of `row` of array `a`: the first visited row from
there on in walk order, or none when the walk ends first (R112, R113). `fuel` bounds the rows looked at. -/
def seekRow (s : State) : (fuel : Nat) → (a : ArrayNo) → (row : Nat) → Option (ArrayNo × Nat)
  | 0, _, _ => none
  | n + 1, a, row =>
    if row < physRows then
      if rowVisited s a row then some (a, row) else seekRow s n a (row + 1)
    else match nextInstalled s a with
      | some b => seekRow s n b 0
      | none => none

/-- More rows and array ends than a whole walk has. -/
def walkFuel : Nat := 8 * (physRows + 1) + 1

/-- The cursor returned to the first position, where row 0 of array 0 is judged (R112, R113, R118, R119). In a state
where no row at all is visited, which the part cannot reach (R74: 32 entries), the cursor stays at row 0 (log 26). -/
def firstPosition (s : State) : ScrubPos :=
  match seekRow s walkFuel 0 0 with
  | some (a, row) => { array := a, row := row, column := 0 }
  | none => { array := 0, row := 0, column := 0 }

/-- The cursor set. -/
def setCursor (p : ScrubPos) (s : State) : State := { s with scrub := { s.scrub with cursor := p } }

/-- The completion of a pass, in R118's order: aging and the new pass number, PASS raised, the cursor returned. -/
def completePass (s : State) : State :=
  let s1 := { s with
    map := s.map.aged s.scrub.pass
    scrub := { s.scrub with pass := s.scrub.pass + 1 } }
  let s2 := raise .pass s1
  setCursor (firstPosition s2) s2

/-- The cursor moved to the next position in walk order (R112, R117). -/
def advanceCursor (s : State) : State :=
  if s.scrub.cursor.column + 1 < columns then
    setCursor { s.scrub.cursor with column := s.scrub.cursor.column + 1 } s
  else match seekRow s walkFuel s.scrub.cursor.array (s.scrub.cursor.row + 1) with
    | some (a, row) => setCursor { array := a, row := row, column := 0 } s
    | none => completePass s

/-- The result of a SCRUB turn reaches the Scrubber: discarded when the array has left the installed set since the grant,
otherwise the cursor moves (R117). -/
def scrubResult (leftSet : Bool) (s : State) : State := if leftSet then s else advanceCursor s

/-- A new SCRUB-INTERVAL: 0 stops the timer and withdraws a waiting claim; another value restarts the timer (R115). -/
def setScrubInterval (v : Nat) (s : State) : State :=
  { s with
    params := { s.params with scrubInterval := v }
    scrub := { s.scrub with timer := v, claim := if v = 0 then false else s.scrub.claim } }

/-- The fill pass begun (R120). -/
def startFill (s : State) : State := { s with scrub := { s.scrub with fill := some { array := 0, index := 0 } } }

/-- A fill in hand made void (R120, R122). -/
def TurnWork.voidFill : TurnWork → TurnWork
  | .fill i _ => .fill i true
  | .hostRead p w r => .hostRead p w r
  | .drain x d m p rw ww => .drain x d m p rw ww
  | .peek w => .peek w
  | .copy h sw tw => .copy h sw tw
  | .migrate k i v => .migrate k i v
  | .scrub w l => .scrub w l

/-- The fill pass abandoned: no fill cursor, every fill in hand void (R122). -/
def abandonFill (s : State) : State :=
  { s with
    scrub := { s.scrub with fill := none }
    turns := s.turns.map (Option.map (fun t => { t with work := t.work.voidFill })) }

/-- The fill completion notice at the Path Controller: FILLING returns to SETUP; in DRAINING and FROZEN SETUP becomes the
resume state (R121, R157, R161). -/
def fillNotice (s : State) : State :=
  match s.path.path with
  | .filling => moveTo .setup s
  | .draining | .frozen => { s with path := { s.path with resume := .setup } }
  | .hold | .setup | .opened | .enteringQuiet | .quiet | .waking => s

/-- The position after `i` of array `a` in the fill walk, none after the last (R121). -/
def nextFill (s : State) (a : ArrayNo) (i : PhysIndex) : Option FillPos :=
  match finOf? wordsPerArray (i.val + 1) with
  | some j => some { array := a, index := j }
  | none =>
    match nextInstalled s a with
    | some b => some { array := b, index := 0 }
    | none => none

/-- The result of a FILL turn at index `i` of array `a`: the cursor moved on, or the fill completed in R121's order. -/
def fillResult (a : ArrayNo) (i : PhysIndex) (void : Bool) (s : State) : State :=
  if void then s
  else match nextFill s a i with
    | some p => { s with scrub := { s.scrub with fill := some p } }
    | none => fillNotice (raise .fillDone { s with scrub := { s.scrub with fill := none } })

end Sys2Proof.Machine
end

