-- ==== Sys2Proof/Machine/LinkResults.lean ====
section
/-! DEFINITION. The codes and result layouts of the maintenance link (spec/13), the bytes of a response frame, and
the status fields of the host memory port (13.7). -/

namespace Sys2Proof.Machine

/-- The status codes (13.3). -/
def LinkStatus.code : LinkStatus → Byte
  | .ok => 0x00 | .accepted => 0x01 | .busy => 0x02 | .refusedState => 0x03 | .badArgument => 0x04 | .unknown => 0x05
  | .noSpare => 0x06 | .declined => 0x07 | .abandoned => 0x08 | .entered => 0x09 | .linkReject => 0x0A | .empty => 0x0B

/-- The bytes of a response frame between the marker and the check (13.2, R195). -/
def Response.body (r : Response) : List Byte :=
  BitVec.ofNat 8 (2 + r.result.length) :: r.seq :: r.status.code :: r.result

/-- A whole response frame (13.2, R180). -/
def Response.bytes (r : Response) : List Byte := 0x5A :: (r.body ++ [crc r.body])

/-- The path state codes (13.5). -/
def PathState.code : PathState → Byte
  | .hold => 0x00 | .setup => 0x01 | .filling => 0x02 | .opened => 0x03 | .enteringQuiet => 0x04 | .quiet => 0x05
  | .waking => 0x06 | .draining => 0x07 | .frozen => 0x08

/-- The last quiet outcome codes (13.5). -/
def QuietOutcome.code : QuietOutcome → Byte
  | .noOutcome => 0x00 | .entered => 0x01 | .declined => 0x02 | .abandoned => 0x03

/-- The origin codes of a Fault Map entry (13.5). -/
def Origin.code : Origin → Byte
  | .hostRead => 0x01 | .drain => 0x02 | .scrub => 0x03 | .copy => 0x04 | .migrate => 0x05

/-- The entry state codes (13.5). -/
def EntryState.code : EntryState → Byte
  | .watch => 0x01 | .suspect => 0x02 | .condemned => 0x03

/-- The substitution and steering origin codes (13.5). -/
def RepairOrigin.code : RepairOrigin → Byte
  | .auto => 0x01 | .host => 0x02 | .loaded => 0x03

/-- The last uncorrectable class codes, 00h when the lane is present (13.5). -/
def uncorrectableCode : Option Uncorrectable → Byte
  | none => 0x00
  | some .blank => 0x03
  | some .fault => 0x04

/-- A small number as a byte. -/
def byteNat (n : Nat) : Byte := BitVec.ofNat 8 n

/-- A Bool as a byte with the value in bit 0. -/
def byteBool (b : Bool) : Byte := if b then 1 else 0

/-- STATUS (13.6, R190). -/
def statusBytes (s : State) : List Byte :=
  [s.path.path.code, s.path.resume.path.code, s.path.lastQuiet.code, s.path.causes.flags.setWidth 8]
    ++ beBytes 2 s.alert.flags.toNat ++ beBytes 2 s.alert.enables.toNat
    ++ [byteBool s.alert.master, byteNat s.queue.length, byteNat s.port.reads.length, byteNat s.map.occupancy,
        byteNat (entryCount s)]
    ++ beBytes 2 s.scrub.pass.toNat

/-- The setting of the parameter with an id (R192's table). -/
def paramValue (p : Params) (id : Nat) : Nat :=
  match id with
  | 0 => p.arrays.count
  | 1 => p.suspectAt
  | 2 => p.rowLanes
  | 3 => p.laneRows
  | 4 => p.autoSub.toNat
  | 5 => p.autoSteer.toNat
  | 6 => p.repairRead.toNat
  | 7 => p.scrubInterval
  | _ => p.highWater

/-- GET-PARAM (13.6, R191). -/
def getParamBytes (p : Params) (id : Nat) : List Byte := byteNat id :: beBytes 4 (paramValue p id)

/-- READ-CAUSES (13.6, R171). -/
def causesBytes (c : CauseRecord) : List Byte := [c.flags.setWidth 8, c.last.code]

/-- The recency rank of a slot, counted from 1 for the least recent (R51). -/
def FaultMap.rank (m : FaultMap) (i : Fin 64) : Nat := m.recency.idxOf i + 1

/-- MAP-READ (13.6, R69). -/
def mapReadBytes (m : FaultMap) (i : Fin 64) (e : MapEntry) : List Byte :=
  [e.state.code, byteNat e.array.val] ++ beBytes 2 e.row
    ++ [match e.lane with
        | some l => byteNat l.val
        | none => 0xFF, byteNat e.occurrences]
    ++ beBytes 2 e.lastColumn ++ beBytes 2 e.firstPass.toNat ++ beBytes 2 e.lastPass.toNat
    ++ [e.lastOrigin.code, uncorrectableCode e.lastClass, byteNat (m.rank i), byteNat i.val]

/-- The source code of a substitution entry (13.6). -/
def sourceByte : CopySource → Byte
  | .hostRow => 0x80
  | .spare t => byteNat t.val

/-- SUB-READ (13.6, R91). -/
def subReadBytes (e : SubEntry) : List Byte :=
  match e.phase with
  | .copying src c =>
    [0x01, byteNat e.array.val] ++ beBytes 2 e.hostRow ++ [sourceByte src, byteNat e.target.val] ++ beBytes 2 c
      ++ [e.origin.code]
  | .active =>
    [0x02, byteNat e.array.val] ++ beBytes 2 e.hostRow ++ [0xFF, byteNat e.target.val] ++ [0xFF, 0xFF] ++ [e.origin.code]

/-- The spare status codes (13.6). -/
def SpareStatus.code : SpareStatus → Byte
  | .free => 0x00 | .inUse => 0x01 | .retired => 0x02

/-- SPARE-READ (13.6, R92). -/
def spareReadBytes (s : State) (a : ArrayNo) : List Byte := (List.finRange 16).map (fun t => (s.spare a t).code)

/-- LANE-READ (13.6, R109). -/
def laneReadBytes (r : SteerRecord) : List Byte :=
  match r with
  | .normal => [0x00, 0xFF, 0x00, 0xFF, 0xFF, 0xFF, 0xFF]
  | .migrating k c o => [0x01, byteNat k.val, o.code] ++ beBytes 4 c
  | .steered k o => [0x02, byteNat k.val, o.code, 0xFF, 0xFF, 0xFF, 0xFF]

/-- SCRUB-READ (13.6, R123). -/
def scrubReadBytes (c : Scrubber) : List Byte :=
  [byteNat c.cursor.array.val] ++ beBytes 2 c.cursor.row ++ beBytes 2 c.cursor.column ++ beBytes 2 c.pass.toNat
    ++ (match c.fill with
      | none => [0x00, 0xFF, 0xFF, 0xFF, 0xFF, 0xFF]
      | some p => [0x01, byteNat p.array.val] ++ beBytes 4 p.index.val)

/-! ## The host memory port's statuses -/

/-- The status field of a read response, three bits (13.7). -/
def ReadStatus.code : ReadStatus → BitVec 3
  | .good => 0 | .fixed => 1 | .poison => 2 | .blank => 3 | .fault => 4 | .range => 5 | .closed => 6 | .tagClash => 7

/-- The status field of a write acknowledgement, two bits (13.7). -/
def WriteStatus.code : WriteStatus → BitVec 2
  | .taken => 0 | .takenPoisoned => 1 | .range => 2 | .closed => 3

end Sys2Proof.Machine
end

