-- ==== Sys2Proof/Machine/WriteQueue.lean ====
section
/-! DEFINITION. The Write Queue (spec/08): entries, merging, the drain hold, eligibility, snapshots. -/

namespace Sys2Proof.Machine

/-- The entry with a word address, in drain or not (R124: at most one). -/
def queueFind (q : List WriteEntry) (w : BitVec 28) : Option WriteEntry := q.find? (fun e => e.addr == w)

/-- Whether an outstanding read holds an entry: its address, its turn not granted, taken before the latest merge (R133). -/
def OutRead.holds (r : OutRead) (e : WriteEntry) : Bool :=
  r.addr == e.addr && !r.inTurn && decide (r.place < e.mark)

/-- Whether an entry is held from draining (R133). -/
def heldBy (reads : List OutRead) (e : WriteEntry) : Bool := reads.any (fun r => r.holds e)

/-- Whether an entry is eligible: neither held nor in drain (R135). -/
def eligible (reads : List OutRead) (e : WriteEntry) : Bool := !heldBy reads e && !e.inDrain

/-- The oldest eligible entry for an array (R136). -/
def drainChoice (s : State) (a : ArrayNo) : Option WriteEntry :=
  s.queue.find? (fun e => decide (e.array = a) && eligible s.port.reads e)

/-- A write merged into an entry (R127). -/
def WriteEntry.merge (e : WriteEntry) (mask : Byte) (data : Data) (poisoned : Bool) (place : Nat) : WriteEntry :=
  { e with
    data := mergeBytes mask data e.data
    mask := e.mask ||| mask
    mark := place
    poisoned := if poisoned then true else if mask = fullMask then false else e.poisoned }

/-- The entry a write creates (R128). -/
def WriteEntry.create (n : ArrayCount) (w : BitVec 28) (mask : Byte) (data : Data) (poisoned : Bool) (place : Nat) :
    WriteEntry :=
  { addr := w, array := (homeOf n w).array, data := mergeBytes mask data 0, mask := mask, poisoned := poisoned,
    mark := place, inDrain := false }

/-- The queue after a write is taken, or none where it cannot be taken now (R126, R127, R128). -/
def queueTake (n : ArrayCount) (q : List WriteEntry) (w : BitVec 28) (mask : Byte) (data : Data) (poisoned : Bool)
    (place : Nat) : Option (List WriteEntry) :=
  match queueFind q w with
  | some e =>
    if e.inDrain then none
    else some (q.map (fun x => if x.addr = w then x.merge mask data poisoned place else x))
  | none =>
    if q.length < 16 then some (q ++ [WriteEntry.create n w mask data poisoned place]) else none

/-- An entry in drain (R136). -/
def queueStartDrain (q : List WriteEntry) (w : BitVec 28) : List WriteEntry :=
  q.map (fun x => if x.addr = w then { x with inDrain := true } else x)

/-- The entry of an address removed; the rest keep their order (R124, R137). -/
def queueRemove (q : List WriteEntry) (w : BitVec 28) : List WriteEntry := q.filter (fun x => x.addr != w)

/-- The snapshot of a partial-mask entry (R131). -/
def WriteEntry.snapshot (e : WriteEntry) : Snapshot := { mask := e.mask, data := e.data, poisoned := e.poisoned }

/-- Whether draining is urgent: the depth at HIGH-WATER or above, or DRAINING or ENTERING-QUIET (R32, R138). -/
def drainUrgent (s : State) : Bool :=
  decide (s.params.highWater ≤ s.queue.length) || s.path.path == .draining || s.path.path == .enteringQuiet

end Sys2Proof.Machine
end

