-- ==== Sys2Proof/Machine/HostPort.lean ====
section
/-! DEFINITION. The Host Memory Port (spec/09): weighing a request, and the commands READ_REQUEST, WRITE_REQUEST and
REQUEST_WEIGHED_AGAIN. -/

namespace Sys2Proof.Machine

/-- A request kept waiting (R142). -/
def keepWaiting (r : Request) (s : State) : State := { s with port := { s.port with waiting := some r } }

/-- The next place of the take order given (R143). -/
def takePlace (s : State) : State := { s with port := { s.port with nextPlace := s.port.nextPlace + 1 } }

/-- A read joins the Outstanding Read List, at its newest end, WAITING (R147). -/
def joinList (tag : BitVec 4) (w : BitVec 28) (snap : Option Snapshot) (s : State) : State :=
  { s with port := { s.port with
      reads := s.port.reads ++ [{ tag := tag, addr := w, home := homeOf s.params.arrays w, place := s.port.nextPlace,
                                  snapshot := snap, inTurn := false }]
      nextPlace := s.port.nextPlace + 1 } }

/-- A read taken against the Write Queue (R129, R130, R131, R148 test 4). -/
def takeRead (tag : BitVec 4) (w : BitVec 28) (s : State) : State :=
  match queueFind s.queue w with
  | none => joinList tag w none s
  | some e =>
    if e.mask = fullMask then
      answerRead tag e.data (if e.poisoned then .poison else .good) (takePlace s)
    else joinList tag w (some e.snapshot) s

/-- A read weighed in OPEN: room, tag, range, queue, in this order (R148). -/
def weighRead (tag : BitVec 4) (w : BitVec 28) (s : State) : State :=
  if 8 ≤ s.port.reads.length then keepWaiting (.read tag w) s
  else if s.port.reads.any (fun r => r.tag == tag) then answerRead tag 0 .tagClash s
  else if !inRange s.params.arrays w then answerRead tag 0 .range s
  else takeRead tag w s

/-- The queue after a write is taken, its acknowledgement, and POISON-IN for a poisoned one (R149 test 4, R150). -/
def takeWrite (q : List WriteEntry) (poisoned : Bool) (s : State) : State :=
  let s1 := takePlace { s with queue := q }
  if poisoned then raise .poisonIn (answer (.write .takenPoisoned) s1) else answer (.write .taken) s1

/-- A write weighed in OPEN: range, empty mask, parity, queue, in this order (R149). -/
def weighWrite (w : BitVec 28) (mask : Byte) (data : Data) (parity : Byte) (s : State) : State :=
  if !inRange s.params.arrays w then answer (.write .range) s
  else if mask = 0 then answer (.write .taken) s
  else
    match queueTake s.params.arrays s.queue w mask data (parityFails mask data parity) s.port.nextPlace with
    | some q => takeWrite q (parityFails mask data parity) s
    | none => keepWaiting (.write w mask data parity) s

/-- A request weighed in OPEN (R148, R149). -/
def weighOpen (r : Request) (s : State) : State :=
  match r with
  | .read tag w => weighRead tag w s
  | .write w mask data parity => weighWrite w mask data parity s

/-- What becomes of an arriving request, by the bus reset line and the path state (R144, R145). DESIGN CHOICE (log 28):
whether a request that is discarded under an asserted bus reset line is still reported to the Path Controller in QUIET or
ENTERING-QUIET is left open (9.2, R164, R165); here it is not, so it begins no wake and abandons no entry. -/
def weigh (r : Request) (s : State) : State :=
  if s.busReset then s
  else match s.path.path with
    | .hold => s
    | .setup | .filling | .draining | .frozen => answerClosed r s
    | .opened => weighOpen r s
    | .enteringQuiet => weighOpen r (abandonQuiet s)
    | .quiet => keepWaiting r (beginWake s)
    | .waking => keepWaiting r s

/-- A request kept waiting weighed again, as if it had just arrived (R146). -/
def weighWaiting (s : State) : State :=
  match s.port.waiting with
  | none => s
  | some r => weigh r { s with port := { s.port with waiting := none } }

/-- A change of path state, at which a request kept waiting is weighed again (R146, R157; log 7). -/
def changePath (p : PathState) (s : State) : State := weighWaiting (moveTo p s)

/-- A request presented by the bus: while another waits, the port accepts none (R142; log 25). -/
def present (r : Request) (s : State) : State :=
  match s.port.waiting with
  | some _ => s
  | none => weigh r s

/-- READ_REQUEST (R148). -/
def execReadRequest (tag : BitVec 4) (w : BitVec 28) (s : State) : Host.Outcome State Fault Refusal :=
  .next (present (.read tag w) s)

/-- WRITE_REQUEST (R149). -/
def execWriteRequest (w : BitVec 28) (mask : Byte) (data : Data) (parity : Byte) (s : State) :
    Host.Outcome State Fault Refusal :=
  .next (present (.write w mask data parity) s)

/-- REQUEST_WEIGHED_AGAIN (R146). -/
def execRequestWeighedAgain (s : State) : Host.Outcome State Fault Refusal := .next (weighWaiting s)

end Sys2Proof.Machine
end

