-- ==== Sys2Proof/Machine/Supply.lean ====
section
/-! DEFINITION. Resets, the bus reset line, the supply warning and the timed ends of path states (spec/10; spec/09 R154,
R155). -/

namespace Sys2Proof.Machine

/-- Every piece of state at its reset value but for the reset-cause record, with the array contents undefined anew (R160,
R34). The input lines keep their levels, and what has been sent or is still to come is no state of the part (log 4, 10,
16). -/
def resetTo (causes : CauseRecord) (s : State) : State :=
  { State.reset with
    epoch := s.epoch + 1
    path := { State.reset.path with causes := causes }
    port := { State.reset.port with answers := s.port.answers }
    busReset := s.busReset
    supplyWarning := s.supplyWarning
    pending := s.pending }

/-- POWER_ON (R160, R171). -/
def execPowerOn (s : State) : Host.Outcome State Fault Refusal :=
  .next (resetTo { flags := BitVec.twoPow 4 ResetCause.powerOn.bit, last := .powerOn } s)

/-- SUPPLY_DIP (R160, R171): the record is kept, its flag set. -/
def execSupplyDip (s : State) : Host.Outcome State Fault Refusal :=
  .next (resetTo (s.path.causes.record .supplyDip) s)

/-- An entry into DRAINING by the supply warning: a waiting PEEK withdrawn (R46), SUPPLY raised (R167), a request kept
waiting answered CLOSED (R146). -/
def enterDraining (s : State) : State := weighWaiting (raise .supply (withdrawPeek (moveTo .draining s)))

/-- HOLD_END (R159): once the bus reset line is released, SETUP, or DRAINING with SETUP as the resume state if the supply
warning is asserted. -/
def execHoldEnd (s : State) : Host.Outcome State Fault Refusal :=
  .next (
    if s.path.path = .hold ∧ s.busReset = false then
      if s.supplyWarning then enterDraining (moveTo .setup s) else changePath .setup s
    else s)

/-- Every outstanding read discarded with its snapshot (R154 step 1, R156); turns go on. -/
def discardReads (s : State) : State := { s with port := { s.port with reads := [] } }

/-- A request in waiting discarded without an answer (R154 step 2). -/
def discardWaiting (s : State) : State := { s with port := { s.port with waiting := none } }

/-- The path state at an assertion of the bus reset line outside HOLD (R170). -/
def busResetPath (s : State) : State :=
  match s.path.path with
  | .enteringQuiet => abandonQuiet s
  | .quiet => beginWake s
  | .hold | .setup | .filling | .opened | .waking | .draining | .frozen => s

/-- BUS_RESET_ASSERTED (R154, R170, R171). In HOLD the line acts only through the length of HOLD (R159). -/
def execBusResetAsserted (s : State) : Host.Outcome State Fault Refusal :=
  .next (
    if s.busReset then s
    else if s.path.path = .hold then { s with busReset := true }
    else busResetPath (recordCause .busReset (discardWaiting (discardReads { s with busReset := true }))))

/-- BUS_RESET_RELEASED (R155, R170). -/
def execBusResetReleased (s : State) : Host.Outcome State Fault Refusal := .next { s with busReset := false }

/-- SUPPLY_WARNING_ASSERTED (R167, R168). -/
def execSupplyWarningAsserted (s : State) : Host.Outcome State Fault Refusal :=
  .next (
    if s.supplyWarning then s
    else
      let s1 := { s with supplyWarning := true }
      match s.path.path with
      | .setup | .filling | .opened | .quiet | .waking => enterDraining s1
      | .enteringQuiet => enterDraining (abandonQuiet s1)
      | .frozen => { s1 with path := { s1.path with retentionExit := false } }
      | .hold | .draining => s1)

/-- SUPPLY_WARNING_RELEASED (R168). -/
def execSupplyWarningReleased (s : State) : Host.Outcome State Fault Refusal :=
  .next (
    if s.supplyWarning then
      let s1 := { s with supplyWarning := false }
      match s.path.path with
      | .draining => changePath s.path.resume.path s1
      | .frozen => { s1 with path := { s1.path with retentionExit := true } }
      | .hold | .setup | .filling | .opened | .enteringQuiet | .quiet | .waking => s1
    else s)

/-- RETENTION_EXIT_END (R168). -/
def execRetentionExitEnd (s : State) : Host.Outcome State Fault Refusal :=
  .next (
    if s.path.path = .frozen ∧ s.path.retentionExit = true then
      changePath s.path.resume.path { s with path := { s.path with retentionExit := false } }
    else s)

/-- WAKE_END (R166). -/
def execWakeEnd (s : State) : Host.Outcome State Fault Refusal :=
  .next (if s.path.path = .waking then changePath s.path.resume.path s else s)

/-- QUIET_ENTRY_COMPLETE (R163): QUIET, QUIESCE answered ENTERED, and a wake at once if the alert condition holds. -/
def execQuietEntryComplete (s : State) : Host.Outcome State Fault Refusal :=
  .next (
    if s.path.path = .enteringQuiet ∧ still s = true then
      let s1 := answerQuiesce .entered (setQuietOutcome .entered (moveTo .quiet s))
      if alertCondition s1.alert then beginWake s1 else s1
    else s)

/-- DRAIN_TO_FROZEN (R168). -/
def execDrainToFrozen (s : State) : Host.Outcome State Fault Refusal :=
  .next (if s.path.path = .draining ∧ still s = true then moveTo .frozen s else s)

end Sys2Proof.Machine
end

