-- ==== Sys2Proof/Machine/LinkCommands.lean ====
section
/-! DEFINITION. What each command of the maintenance link does once it is executed (spec/12 R185 to R192 and the owning
rules): its effect and its reply. The frames that bring them stand in LinkRows.lean. -/

namespace Sys2Proof.Machine

/-- The effect of an executed command: from its sequence and argument bytes, and the state, to the state after it with its
reply formed or withheld. -/
abbrev CommandEffect := Byte → List Byte → State → State

/-! ## Generic commands (R190 to R192) -/

/-- STATUS (R190). -/
def doStatus : CommandEffect := fun q _ s => reply q .ok (statusBytes s) s

/-- GET-PARAM (R191). -/
def doGetParam : CommandEffect := fun q args s =>
  if argNat args 0 1 ≤ 8 then reply q .ok (getParamBytes s.params (argNat args 0 1)) s
  else reply q .badArgument [] s

/-- A SCRUB turn whose array has left the installed set marked so (R117). -/
def TurnWork.markLeft : TurnWork → TurnWork
  | .scrub w _ => .scrub w true
  | .hostRead p w r => .hostRead p w r
  | .drain x d m p rw ww => .drain x d m p rw ww
  | .peek w => .peek w
  | .copy h sw tw => .copy h sw tw
  | .migrate k i v => .migrate k i v
  | .fill i v => .fill i v

/-- The SCRUB turns in progress on arrays that are not installed marked as having left (R117, R48). -/
def markLeftTurns (s : State) : State :=
  { s with turns := Vector.ofFn (fun a =>
      if installed s a then s.turns.get a
      else (s.turns.get a).map (fun t => { t with work := t.work.markLeft })) }

/-- The Scrubber at a change of ARRAYS: a cursor on an array no longer installed returns to the first position, and the
SCRUB claim there is withdrawn (R119, R48). -/
def rescueCursor (s : State) : State :=
  if installed s s.scrub.cursor.array then s
  else setCursor (firstPosition s) { s with scrub := { s.scrub with claim := false } }

/-- ARRAYS set (R16, R18, R48, R119). -/
def setArrays (n : ArrayCount) (s : State) : State :=
  rescueCursor (markLeftTurns { s with params := { s.params with arrays := n } })

/-- Whether a value is in the range of the parameter with an id from 1 to 8 (R192's table). -/
def paramRange (id v : Nat) : Bool :=
  match id with
  | 1 => 1 ≤ v && v ≤ 15
  | 2 => 1 ≤ v && v ≤ 8
  | 3 => 1 ≤ v && v ≤ 16
  | 4 => v ≤ 1
  | 5 => v ≤ 1
  | 6 => v ≤ 1
  | 7 => v ≤ 65535
  | 8 => 1 ≤ v && v ≤ 16
  | _ => false

/-- The parameter with an id from 1 to 8 set to a value in range (R192, R37, R59, R82, R100, R115, R138). -/
def setParam (id v : Nat) (s : State) : State :=
  match id with
  | 1 => { s with params := { s.params with suspectAt := v } }
  | 2 => { s with params := { s.params with rowLanes := v } }
  | 3 => { s with params := { s.params with laneRows := v } }
  | 4 => { s with params := { s.params with autoSub := v == 1 } }
  | 5 => { s with params := { s.params with autoSteer := v == 1 } }
  | 6 => { s with params := { s.params with repairRead := v == 1 } }
  | 7 => setScrubInterval v s
  | 8 => { s with params := { s.params with highWater := v } }
  | _ => s

/-- SET-PARAM for ARRAYS: path state, queue and reads first, then the value (R16). -/
def doSetArrays (q : Byte) (v : Nat) (s : State) : State :=
  if s.path.path = .setup ∧ s.queue = [] ∧ s.port.reads = [] then
    match ArrayCount.ofNat? v with
    | some n => reply q .ok [] (setArrays n s)
    | none => reply q .badArgument [] s
  else reply q .refusedState [] s

/-- SET-PARAM (R192). -/
def doSetParam : CommandEffect := fun q args s =>
  if argNat args 0 1 = 0 then doSetArrays q (argNat args 1 4) s
  else if paramRange (argNat args 0 1) (argNat args 1 4) then
    reply q .ok [] (setParam (argNat args 0 1) (argNat args 1 4) s)
  else reply q .badArgument [] s

/-! ## Path commands (R161, R162, R165, R169) -/

/-- OPEN (R161). -/
def doOpen : CommandEffect := fun q _ s =>
  match s.path.path with
  | .setup => reply q .ok [] (changePath .opened s)
  | .opened => reply q .ok [] s
  | .hold | .filling | .enteringQuiet | .quiet | .waking | .draining | .frozen => reply q .refusedState [] s

/-- CLOSE (R161). -/
def doClose : CommandEffect := fun q _ s =>
  match s.path.path with
  | .opened => reply q .ok [] (changePath .setup s)
  | .setup => reply q .ok [] s
  | .hold | .filling | .enteringQuiet | .quiet | .waking | .draining | .frozen => reply q .refusedState [] s

/-- FILL (R161, R120). -/
def doFill : CommandEffect := fun q _ s =>
  match s.path.path with
  | .setup => reply q .ok [] (startFill (changePath .filling s))
  | .hold | .opened | .filling | .enteringQuiet | .quiet | .waking | .draining | .frozen => reply q .refusedState [] s

/-- QUIESCE (R162): declined while the alert condition holds; otherwise ENTERING-QUIET with the reply withheld, where a
request kept waiting is weighed as an arrival (R145). -/
def doQuiesce : CommandEffect := fun q _ s =>
  match s.path.path with
  | .opened =>
    if alertCondition s.alert then reply q .declined [] (setQuietOutcome .declined s)
    else changePath .enteringQuiet { s with link := { s.link with lock := some { seq := q, command := .quiesce } } }
  | .hold | .setup | .filling | .enteringQuiet | .quiet | .waking | .draining | .frozen => reply q .refusedState [] s

/-- WAKE (R165). -/
def doWake : CommandEffect := fun q _ s =>
  match s.path.path with
  | .quiet => reply q .ok [] (beginWake s)
  | .waking => reply q .ok [] s
  | .hold | .setup | .filling | .opened | .enteringQuiet | .draining | .frozen => reply q .refusedState [] s

/-- The resume state set to SETUP (R157, R169). -/
def resumeSetup (s : State) : State := { s with path := { s.path with resume := .setup } }

/-- Every parameter but ARRAYS at its default, the interval timer stopped and a SCRUB claim withdrawn (R169, R115, R31). -/
def restartParams (s : State) : State :=
  setScrubInterval 0 { s with params := { Params.default with arrays := s.params.arrays } }

/-- The path state at a RESTART (R169's table). ENTERING-QUIET and HOLD cannot be reached by one (log 24). -/
def restartPath (s : State) : State :=
  match s.path.path with
  | .setup | .filling | .opened => changePath .setup s
  | .quiet => beginWake (resumeSetup s)
  | .hold | .enteringQuiet | .waking | .draining | .frozen => resumeSetup s

/-- The effects of RESTART, after its response (R169). -/
def restartEffects (s : State) : State :=
  restartPath (recordCause .restart
    { restartParams (abandonFill (discardReads s)) with alert := { flags := 0, enables := 0, master := false } })

/-- RESTART: answered and stored first, then applied (R169, R187; log 13). -/
def doRestart : CommandEffect := fun q _ s => restartEffects (reply q .ok [] s)

/-- READ-CAUSES (R171). -/
def doReadCauses : CommandEffect := fun q _ s => reply q .ok (causesBytes s.path.causes) s

/-- CLEAR-CAUSES (R171): bits 4 to 7 of the mask are ignored (R194). -/
def doClearCauses : CommandEffect := fun q args s =>
  reply q .ok [] { s with path := { s.path with causes := { s.path.causes with
    flags := s.path.causes.flags &&& ~~~(BitVec.ofNat 4 (argNat args 0 1)) } } }

/-! ## Alert commands (R176, R177) -/

/-- CLEAR-FLAGS (R176): bits 11 to 15 of the mask are ignored (R194). -/
def doClearFlags : CommandEffect := fun q args s =>
  reply q .ok [] (changeAlert { s.alert with flags := s.alert.flags &&& ~~~(BitVec.ofNat 11 (argNat args 0 2)) } s)

/-- SET-ENABLES (R177): all twelve together, then one re-evaluation. -/
def doSetEnables : CommandEffect := fun q args s =>
  reply q .ok [] (changeAlert { s.alert with
    enables := BitVec.ofNat 11 (argNat args 0 2)
    master := (argNat args 2 1).testBit 0 } s)

/-! ## PEEK (R44) -/

/-- PEEK accepted: its claim placed and its reply withheld (R44). -/
def acceptPeek (q : Byte) (a : ArrayNo) (w : PhysIndex) (s : State) : State :=
  { s with link := { s.link with lock := some { seq := q, command := .peek a w false } } }

/-- PEEK (R44): the path state first, then the arguments. -/
def doPeek : CommandEffect := fun q args s =>
  match s.path.path with
  | .setup | .filling | .opened =>
    match installedArg s (argNat args 0 1), wordAt (argNat args 1 2) (argNat args 3 2) with
    | some a, some w => acceptPeek q a w s
    | _, _ => reply q .badArgument [] s
  | .hold | .enteringQuiet | .quiet | .waking | .draining | .frozen => reply q .refusedState [] s

/-! ## Map commands (R69 to R71) -/

/-- MAP-READ (R69). -/
def doMapRead : CommandEffect := fun q args s =>
  match finOf? 64 (argNat args 0 1) with
  | none => reply q .badArgument [] s
  | some i =>
    match s.map.slot i with
    | none => reply q .empty [] s
    | some e => reply q .ok (mapReadBytes s.map i e) s

/-- MAP-DELETE (R70). -/
def doMapDelete : CommandEffect := fun q args s =>
  match finOf? 64 (argNat args 0 1) with
  | none => reply q .badArgument [] s
  | some i =>
    match s.map.slot i with
    | none => reply q .empty [] s
    | some _ => reply q .ok [] { s with map := s.map.removeSlot i }

/-- MAP-PURGE (R71). -/
def doMapPurge : CommandEffect := fun q _ s => reply q .ok [] { s with map := FaultMap.emptied }

/-! ## Row commands (R87 to R92) -/

/-- The reply to a commanded condemnation by its outcome (R87, R106). -/
def RepairOutcome.reply : RepairOutcome → LinkStatus
  | .started => .accepted
  | .noSpare => .noSpare
  | .ignored => .ok

/-- Whether CONDEMN-ROW may name a row: a host row, or a spare that is the target of an entry that is not FREE (R87). -/
def rowCondemnable (s : State) (a : ArrayNo) (row : Nat) : Bool :=
  if row < hostRows then true
  else match spareOfRow row with
    | some t => s.spare a t == .inUse && (entryWhere s (fun e => decide (e.array = a ∧ e.target = t))).isSome
    | none => false

/-- CONDEMN-ROW (R87). -/
def doCondemnRow : CommandEffect := fun q args s =>
  match s.path.path with
  | .setup | .opened =>
    match installedArg s (argNat args 0 1) with
    | some a =>
      if rowCondemnable s a (argNat args 1 2) then
        let out := condemnRowEngine false a (argNat args 1 2) s
        reply q out.2.reply [] out.1
      else reply q .badArgument [] s
    | none => reply q .badArgument [] s
  | .hold | .filling | .enteringQuiet | .quiet | .waking | .draining | .frozen => reply q .refusedState [] s

/-- A COPYING entry cancelled: the target FREE, the entry FREE or ACTIVE on its source, a copy in hand void (R88, R83). -/
def cancelCopy (i : Fin 32) (e : SubEntry) (src : CopySource) (s : State) : State :=
  setEntry i (e.givenUp src) (setSpare e.array e.target .free (voidCopy e.array i s))

/-- SUB-CANCEL (R88). -/
def doSubCancel : CommandEffect := fun q args s =>
  match finOf? 32 (argNat args 0 1) with
  | none => reply q .badArgument [] s
  | some i =>
    match s.subs.table.get i with
    | none => reply q .empty [] s
    | some e =>
      match e.phase with
      | .active => reply q .badArgument [] s
      | .copying src _ => reply q .ok [] (cancelCopy i e src s)

/-- The array, host row and spare of a SUB-LOAD, when each is as R89 asks. -/
def loadArgs (s : State) (args : List Byte) : Option (ArrayNo × Nat × SpareNo) :=
  match installedArg s (argNat args 0 1), finOf? 16 (argNat args 3 1) with
  | some a, some t =>
    if argNat args 1 2 < hostRows ∧ s.spare a t = .free ∧ (entryFor s a (argNat args 1 2)).isNone then
      some (a, argNat args 1 2, t)
    else none
  | _, _ => none

/-- SUB-LOAD (R89). -/
def doSubLoad : CommandEffect := fun q args s =>
  match s.path.path with
  | .setup =>
    match loadArgs s args with
    | none => reply q .badArgument [] s
    | some (a, row, t) =>
      match freeEntry s with
      | none => reply q .noSpare [] s
      | some i =>
        reply q .ok [] (setEntry i (some { array := a, hostRow := row, phase := .active, target := t,
                                           origin := .loaded }) (setSpare a t .inUse s))
  | .hold | .filling | .opened | .enteringQuiet | .quiet | .waking | .draining | .frozen => reply q .refusedState [] s

/-- SPARE-RETIRE (R90). -/
def doSpareRetire : CommandEffect := fun q args s =>
  match installedArg s (argNat args 0 1), finOf? 16 (argNat args 1 1) with
  | some a, some t =>
    match s.spare a t with
    | .inUse => reply q .badArgument [] s
    | .free => reply q .ok [] (setSpare a t .retired s)
    | .retired => reply q .ok [] s
  | _, _ => reply q .badArgument [] s

/-- SUB-READ (R91). -/
def doSubRead : CommandEffect := fun q args s =>
  match finOf? 32 (argNat args 0 1) with
  | none => reply q .badArgument [] s
  | some i =>
    match s.subs.table.get i with
    | none => reply q .empty [] s
    | some e => reply q .ok (subReadBytes e) s

/-- SPARE-READ (R92). -/
def doSpareRead : CommandEffect := fun q args s =>
  match finOf? 8 (argNat args 0 1) with
  | none => reply q .badArgument [] s
  | some a => reply q .ok (spareReadBytes s a) s

/-! ## Lane commands (R106 to R109) -/

/-- CONDEMN-LANE (R106). -/
def doCondemnLane : CommandEffect := fun q args s =>
  match s.path.path with
  | .setup | .opened =>
    match installedArg s (argNat args 0 1), finOf? 72 (argNat args 1 1) with
    | some a, some k =>
      let out := condemnCodedLane false a k s
      reply q out.2.reply [] out.1
    | _, _ => reply q .badArgument [] s
  | .hold | .filling | .enteringQuiet | .quiet | .waking | .draining | .frozen => reply q .refusedState [] s

/-- LANE-CANCEL (R107). -/
def doLaneCancel : CommandEffect := fun q args s =>
  match installedArg s (argNat args 0 1) with
  | none => reply q .badArgument [] s
  | some a =>
    match s.steerOf a with
    | .normal => reply q .empty [] s
    | .steered _ _ => reply q .badArgument [] s
    | .migrating _ _ _ => reply q .ok [] (cancelMigration a s)

/-- LANE-LOAD (R108). -/
def doLaneLoad : CommandEffect := fun q args s =>
  match s.path.path with
  | .setup =>
    match installedArg s (argNat args 0 1), finOf? 72 (argNat args 1 1) with
    | some a, some k =>
      if s.steerOf a = .normal then reply q .ok [] (setSteer a (.steered k .loaded) s)
      else reply q .badArgument [] s
    | _, _ => reply q .badArgument [] s
  | .hold | .filling | .opened | .enteringQuiet | .quiet | .waking | .draining | .frozen => reply q .refusedState [] s

/-- LANE-READ (R109). -/
def doLaneRead : CommandEffect := fun q args s =>
  match finOf? 8 (argNat args 0 1) with
  | none => reply q .badArgument [] s
  | some a => reply q .ok (laneReadBytes (s.steerOf a)) s

/-- SCRUB-READ (R123). -/
def doScrubRead : CommandEffect := fun q _ s => reply q .ok (scrubReadBytes s.scrub) s

/-- The effect of each command of the link (the command index of 12.7). -/
def commandEffect : LinkCommand → CommandEffect
  | .status => doStatus
  | .getParam => doGetParam
  | .setParam => doSetParam
  | .openPort => doOpen
  | .closePort => doClose
  | .fill => doFill
  | .quiesce => doQuiesce
  | .wake => doWake
  | .restart => doRestart
  | .readCauses => doReadCauses
  | .clearCauses => doClearCauses
  | .clearFlags => doClearFlags
  | .setEnables => doSetEnables
  | .peek => doPeek
  | .mapRead => doMapRead
  | .mapDelete => doMapDelete
  | .mapPurge => doMapPurge
  | .condemnRow => doCondemnRow
  | .subCancel => doSubCancel
  | .subLoad => doSubLoad
  | .spareRetire => doSpareRetire
  | .subRead => doSubRead
  | .spareRead => doSpareRead
  | .condemnLane => doCondemnLane
  | .laneCancel => doLaneCancel
  | .laneLoad => doLaneLoad
  | .laneRead => doLaneRead
  | .scrubRead => doScrubRead

end Sys2Proof.Machine
end

