-- ==== Sys2Proof/WellFormed.lean ====
section
/-! DEFINITION. Which commands are well formed: the operands a row of the table can have. -/

namespace Sys2Proof

/-- A command frame carries at most 12 argument bytes (12.2). -/
def argsFit (args : List Byte) : Bool := decide (args.length ≤ 12)

/-- A well-formed command. A link frame has 0 to 12 argument bytes (12.2); LINK_REJECT's check byte differs from the one
R180 forms (R183); UNKNOWN's code names no command (R189); BYTE_ARRIVES and the other rows take any operand. -/
def Instr.wellFormed (i : Instr) : Bool :=
  match i with
  | .linkReject seq code args check => argsFit args && check != crc (frameBody seq code args)
  | .unknown _ code args => argsFit args && (LinkCommand.ofCode code).isNone
  | .status _ args | .getParam _ args | .setParam _ args | .openPort _ args | .closePort _ args | .fill _ args
  | .quiesce _ args | .wake _ args | .restart _ args | .readCauses _ args | .clearCauses _ args | .clearFlags _ args
  | .setEnables _ args | .peek _ args | .mapRead _ args | .mapDelete _ args | .mapPurge _ args | .condemnRow _ args
  | .subCancel _ args | .subLoad _ args | .spareRetire _ args | .subRead _ args | .spareRead _ args
  | .condemnLane _ args | .laneCancel _ args | .laneLoad _ args | .laneRead _ args | .scrubRead _ args => argsFit args
  | .powerOn | .supplyDip | .holdEnd | .busResetAsserted | .busResetReleased | .supplyWarningAsserted
  | .supplyWarningReleased | .retentionExitEnd | .wakeEnd | .quietEntryComplete | .drainToFrozen | .readRequest _ _
  | .writeRequest _ _ _ _ | .requestWeighedAgain | .turnGrant _ | .hostReadComplete _ _ | .drainComplete _ _
  | .peekTurnComplete _ _ | .copyTurnComplete _ _ | .migrateTurnComplete _ _ | .fillTurnComplete _
  | .scrubTurnComplete _ _ | .scrubIntervalExpiry | .linkGapTimeout | .discardingTimeout | .byteArrives _
  | .responseSent => true

end Sys2Proof
end

