-- ==== Sys2Proof/Machine/LinkRows.lean ====
section
/-! DEFINITION. The link line (spec/12 R179 to R189): the receiver, the tests on a good frame, and the rows of the table
that a frame or a byte on the command line is. -/

namespace Sys2Proof.Machine

/-- The receiver set. -/
def setReceiver (r : Receiver) (s : State) : State := { s with link := { s.link with receiver := r } }

/-- Whether the remaining bytes of a frame whose bytes after the marker are `body` can complete it: the receiver awaits a
marker, or has gathered a part of that frame from its start (R179; log 11). -/
def Receiver.accepts (body : List Byte) : Receiver → Bool
  | .awaitMarker => true
  | .inFrame g => g.isPrefixOf body
  | .discarding => false

/-- A complete frame whose check fails: answered LINK-REJECT with the sequence as received, LINK raised, the store left
(R183). -/
def rejectFrame (q : Byte) (s : State) : State :=
  raise .link (respond { seq := q, status := .linkReject, result := [] } s)

/-- A good frame dealt with: BUSY under a lock, the stored response resent to the stored sequence, executed otherwise
(R185, R186). -/
def dealGood (q : Byte) (execute : State → State) (s : State) : State :=
  match s.link.lock with
  | some _ => respond { seq := q, status := .busy, result := [] } s
  | none =>
    match s.link.store with
    | some r => if r.seq = q then respond r s else execute s
    | none => execute s

/-- The execution of a known command: BAD-ARGUMENT for a frame with fewer argument bytes than it takes (R189). -/
def executeCommand (c : LinkCommand) (effect : CommandEffect) (q : Byte) (args : List Byte) (s : State) : State :=
  if args.length < c.argBytes then reply q .badArgument [] s else effect q args s

/-- The execution of a code that names no command (R189). -/
def executeUnknown (q : Byte) (s : State) : State := reply q .unknown [] s

/-- The rest of a frame arrives and completes it: outside HOLD (R188), where the receiver can take it, the receiver returns
to AWAIT-MARKER and the frame goes on to `next`; otherwise nothing changes (R179; log 2, 11). -/
def frameArrives (q code : Byte) (args : List Byte) (next : State → State) (s : State) : State :=
  if s.path.path ≠ .hold ∧ argsFit args = true ∧ s.link.receiver.accepts (frameBody q code args) = true then
    next (setReceiver .awaitMarker s)
  else s

/-- A good frame of a link command arrives (R179, R180, R185, R189). -/
def commandRow (c : LinkCommand) (effect : CommandEffect) (q : Byte) (args : List Byte) (s : State) :
    Host.Outcome State Fault Refusal :=
  .next (frameArrives q c.code args (dealGood q (executeCommand c effect q args)) s)

/-! ## Bytes on the command line -/

/-- A complete frame: its check, then the tests of R183 or R185. `gathered` are the bytes from the length byte on. -/
def completeFrame (gathered : List Byte) (check : Byte) (s : State) : State :=
  match gathered with
  | _ :: q :: code :: args =>
    if crc gathered = check then
      dealGood q (match LinkCommand.ofCode code with
        | some c => executeCommand c (commandEffect c) q args
        | none => executeUnknown q) s
    else rejectFrame q s
  | _ => s

/-- A byte taken in IN-FRAME (R179): the length, a byte of the frame, or the check that completes it (log 12). -/
def frameByte (g : List Byte) (b : Byte) (s : State) : State :=
  match g with
  | [] => if goodLength b then setReceiver (.inFrame [b]) s else setReceiver .discarding s
  | l :: rest =>
    if rest.length < l.toNat then setReceiver (.inFrame (l :: rest ++ [b])) s
    else completeFrame (l :: rest) b (setReceiver .awaitMarker s)

/-- A byte that arrives on the command line (R179, R182, R188). -/
def takeByte (b : Byte) (s : State) : State :=
  if s.path.path = .hold then s
  else match s.link.receiver with
    | .awaitMarker => if b = commandMarker then setReceiver (.inFrame []) s else s
    | .inFrame g => frameByte g b s
    | .discarding => s

/-- BYTE_ARRIVES (R179). -/
def execByteArrives (b : Byte) (s : State) : Host.Outcome State Fault Refusal := .next (takeByte b s)

/-- LINK_GAP_TIMEOUT (R181). -/
def execLinkGapTimeout (s : State) : Host.Outcome State Fault Refusal :=
  .next (match s.link.receiver with
    | .inFrame _ => if s.path.path = .hold then s else raise .link (setReceiver .awaitMarker s)
    | .awaitMarker => s
    | .discarding => s)

/-- DISCARDING_TIMEOUT (R182). -/
def execDiscardingTimeout (s : State) : Host.Outcome State Fault Refusal :=
  .next (match s.link.receiver with
    | .discarding => if s.path.path = .hold then s else raise .link (setReceiver .awaitMarker s)
    | .awaitMarker => s
    | .inFrame _ => s)

/-- RESPONSE_SENT (R184): the response on the line has gone out whole; the next one follows. -/
def execResponseSent (s : State) : Host.Outcome State Fault Refusal :=
  .next { s with link := { s.link with responses := s.link.responses.tail } }

/-! ## Frames -/

/-- LINK_REJECT (R183): a complete frame whose check differs from the one R180 forms. -/
def execLinkReject (q code : Byte) (args : List Byte) (check : Byte) (s : State) : Host.Outcome State Fault Refusal :=
  .next (
    if check = crc (frameBody q code args) then s
    else frameArrives q code args (rejectFrame q) s)

/-- UNKNOWN (R189): a good frame whose code names no command. -/
def execUnknown (q code : Byte) (args : List Byte) (s : State) : Host.Outcome State Fault Refusal :=
  .next (
    match LinkCommand.ofCode code with
    | some _ => s
    | none => frameArrives q code args (dealGood q (executeUnknown q)) s)

/-- STATUS (R190). -/
def execStatus (q : Byte) (args : List Byte) (s : State) : Host.Outcome State Fault Refusal :=
  commandRow .status doStatus q args s

/-- GET_PARAM (R191). -/
def execGetParam (q : Byte) (args : List Byte) (s : State) : Host.Outcome State Fault Refusal :=
  commandRow .getParam doGetParam q args s

/-- SET_PARAM (R192). -/
def execSetParam (q : Byte) (args : List Byte) (s : State) : Host.Outcome State Fault Refusal :=
  commandRow .setParam doSetParam q args s

/-- OPEN (R161). -/
def execOpenPort (q : Byte) (args : List Byte) (s : State) : Host.Outcome State Fault Refusal :=
  commandRow .openPort doOpen q args s

/-- CLOSE (R161). -/
def execClosePort (q : Byte) (args : List Byte) (s : State) : Host.Outcome State Fault Refusal :=
  commandRow .closePort doClose q args s

/-- FILL (R161, R120). -/
def execFill (q : Byte) (args : List Byte) (s : State) : Host.Outcome State Fault Refusal :=
  commandRow .fill doFill q args s

/-- QUIESCE (R162). -/
def execQuiesce (q : Byte) (args : List Byte) (s : State) : Host.Outcome State Fault Refusal :=
  commandRow .quiesce doQuiesce q args s

/-- WAKE (R165). -/
def execWake (q : Byte) (args : List Byte) (s : State) : Host.Outcome State Fault Refusal :=
  commandRow .wake doWake q args s

/-- RESTART (R169, R187). -/
def execRestart (q : Byte) (args : List Byte) (s : State) : Host.Outcome State Fault Refusal :=
  commandRow .restart doRestart q args s

/-- READ_CAUSES (R171). -/
def execReadCauses (q : Byte) (args : List Byte) (s : State) : Host.Outcome State Fault Refusal :=
  commandRow .readCauses doReadCauses q args s

/-- CLEAR_CAUSES (R171). -/
def execClearCauses (q : Byte) (args : List Byte) (s : State) : Host.Outcome State Fault Refusal :=
  commandRow .clearCauses doClearCauses q args s

/-- CLEAR_FLAGS (R176). -/
def execClearFlags (q : Byte) (args : List Byte) (s : State) : Host.Outcome State Fault Refusal :=
  commandRow .clearFlags doClearFlags q args s

/-- SET_ENABLES (R177). -/
def execSetEnables (q : Byte) (args : List Byte) (s : State) : Host.Outcome State Fault Refusal :=
  commandRow .setEnables doSetEnables q args s

/-- PEEK (R44). -/
def execPeek (q : Byte) (args : List Byte) (s : State) : Host.Outcome State Fault Refusal :=
  commandRow .peek doPeek q args s

/-- MAP_READ (R69). -/
def execMapRead (q : Byte) (args : List Byte) (s : State) : Host.Outcome State Fault Refusal :=
  commandRow .mapRead doMapRead q args s

/-- MAP_DELETE (R70). -/
def execMapDelete (q : Byte) (args : List Byte) (s : State) : Host.Outcome State Fault Refusal :=
  commandRow .mapDelete doMapDelete q args s

/-- MAP_PURGE (R71). -/
def execMapPurge (q : Byte) (args : List Byte) (s : State) : Host.Outcome State Fault Refusal :=
  commandRow .mapPurge doMapPurge q args s

/-- CONDEMN_ROW (R87). -/
def execCondemnRow (q : Byte) (args : List Byte) (s : State) : Host.Outcome State Fault Refusal :=
  commandRow .condemnRow doCondemnRow q args s

/-- SUB_CANCEL (R88). -/
def execSubCancel (q : Byte) (args : List Byte) (s : State) : Host.Outcome State Fault Refusal :=
  commandRow .subCancel doSubCancel q args s

/-- SUB_LOAD (R89). -/
def execSubLoad (q : Byte) (args : List Byte) (s : State) : Host.Outcome State Fault Refusal :=
  commandRow .subLoad doSubLoad q args s

/-- SPARE_RETIRE (R90). -/
def execSpareRetire (q : Byte) (args : List Byte) (s : State) : Host.Outcome State Fault Refusal :=
  commandRow .spareRetire doSpareRetire q args s

/-- SUB_READ (R91). -/
def execSubRead (q : Byte) (args : List Byte) (s : State) : Host.Outcome State Fault Refusal :=
  commandRow .subRead doSubRead q args s

/-- SPARE_READ (R92). -/
def execSpareRead (q : Byte) (args : List Byte) (s : State) : Host.Outcome State Fault Refusal :=
  commandRow .spareRead doSpareRead q args s

/-- CONDEMN_LANE (R106). -/
def execCondemnLane (q : Byte) (args : List Byte) (s : State) : Host.Outcome State Fault Refusal :=
  commandRow .condemnLane doCondemnLane q args s

/-- LANE_CANCEL (R107). -/
def execLaneCancel (q : Byte) (args : List Byte) (s : State) : Host.Outcome State Fault Refusal :=
  commandRow .laneCancel doLaneCancel q args s

/-- LANE_LOAD (R108). -/
def execLaneLoad (q : Byte) (args : List Byte) (s : State) : Host.Outcome State Fault Refusal :=
  commandRow .laneLoad doLaneLoad q args s

/-- LANE_READ (R109). -/
def execLaneRead (q : Byte) (args : List Byte) (s : State) : Host.Outcome State Fault Refusal :=
  commandRow .laneRead doLaneRead q args s

/-- SCRUB_READ (R123). -/
def execScrubRead (q : Byte) (args : List Byte) (s : State) : Host.Outcome State Fault Refusal :=
  commandRow .scrubRead doScrubRead q args s

end Sys2Proof.Machine
end

