-- ==== Sys2Proof/Machine/Sequencer.lean ====
section
/-! DEFINITION. The Array Sequencers (spec/03): waiting claims, the order of grants, TURN_GRANT. -/

namespace Sys2Proof.Machine

/-- The seven turn kinds (R29). -/
inductive TurnKind
  | hostRead | drain | peek | copy | migrate | fill | scrub
  deriving DecidableEq, Repr

/-- The turn kinds a path state grants (R33). -/
def permits (p : PathState) (k : TurnKind) : Bool :=
  match p with
  | .setup | .opened => true
  | .filling => k == .fill || k == .drain || k == .peek
  | .enteringQuiet | .draining => k == .hostRead || k == .drain
  | .hold | .quiet | .waking | .frozen => false

/-- The WAITING read taken earliest among those of an array (R32): the list is in take order. -/
def readChoice (s : State) (a : ArrayNo) : Option OutRead :=
  s.port.reads.find? (fun r => decide (r.home.array = a) && !r.inTurn)

/-- The COPYING entry a COPY turn on an array serves: the lowest-numbered (R83). -/
def copyChoice (s : State) (a : ArrayNo) : Option (Fin 32 × SubEntry) :=
  entryWhere s (fun e => decide (e.array = a) && e.isCopying)

/-- The word of a PEEK whose claim waits at an array (R44). -/
def peekChoice (s : State) (a : ArrayNo) : Option PhysIndex :=
  match s.link.lock with
  | some { seq := _, command := .peek b w false } => if b = a then some w else none
  | _ => none

/-- Whether a claim of a kind waits at an installed array's sequencer (R30, R31, R83, R101, R116, R120, R135; log 8). -/
def claimWaiting (s : State) (a : ArrayNo) (k : TurnKind) : Bool :=
  installed s a &&
  match k with
  | .hostRead => (readChoice s a).isSome
  | .drain => (drainChoice s a).isSome
  | .peek => (peekChoice s a).isSome
  | .copy => (copyChoice s a).isSome
  | .migrate => match s.steerOf a with
    | .migrating _ _ _ => true
    | .normal | .steered _ _ => false
  | .fill => match s.scrub.fill with
    | some p => decide (p.array = a)
    | none => false
  | .scrub => s.scrub.claim && decide (s.scrub.cursor.array = a)

/-- The order of precedence at a grant (R32): an urgent DRAIN comes first. -/
def grantOrder (urgent : Bool) : List TurnKind :=
  if urgent then [.drain, .hostRead, .peek, .copy, .migrate, .fill, .scrub]
  else [.hostRead, .drain, .peek, .copy, .migrate, .fill, .scrub]

/-- The kind the sequencer of an array grants, when it is idle and a permitted claim waits (R32, R33). -/
def grantChoice (s : State) (a : ArrayNo) : Option TurnKind :=
  if (s.turn a).isSome then none
  else (grantOrder (drainUrgent s)).find? (fun k => permits s.path.path k && claimWaiting s a k)

/-- The turn begun at `a`, with the steering record as it stands (R21, R34). -/
def beginTurn (a : ArrayNo) (w : TurnWork) (s : State) : State := s.setTurn a (some { work := w, steer := s.steerOf a })

/-- The read with a take place marked IN-TURN (R147). -/
def markInTurn (place : Nat) (s : State) : State :=
  { s with port := { s.port with
      reads := s.port.reads.map (fun r => if r.place = place then { r with inTurn := true } else r) } }

/-- The grant of a HOST-READ (R21, R22, R36). -/
def grantHostRead (a : ArrayNo) (s : State) : Option State :=
  match readChoice s a with
  | none => some s
  | some r =>
    match wordAt (readRow s a r.home.row r.home.column) r.home.column with
    | some w => some (markInTurn r.place (beginTurn a (.hostRead r.place w s.params.repairRead) s))
    | none => none

/-- Rows and a column as physical words: none if the array lacks one of them. -/
def wordsAt (column : Nat) : List Nat → Option (List PhysIndex)
  | [] => some []
  | r :: rs =>
    match wordAt r column, wordsAt column rs with
    | some w, some ws => some (w :: ws)
    | _, _ => none

/-- The grant of a DRAIN (R21 to R23, R136, R38). -/
def grantDrain (a : ArrayNo) (s : State) : Option State :=
  match drainChoice s a with
  | none => some s
  | some e =>
    let h := homeOf s.params.arrays e.addr
    match wordAt (readRow s a h.row h.column) h.column, wordsAt h.column (writeRows s a h.row h.column) with
    | some rw, some ws =>
      some (beginTurn a (.drain e.addr e.data e.mask e.poisoned rw ws)
        { s with queue := queueStartDrain s.queue e.addr })
    | _, _ => none

/-- The grant of a PEEK (R44, R45). -/
def grantPeek (a : ArrayNo) (s : State) : Option State :=
  match s.link.lock with
  | some { seq := q, command := .peek b w false } =>
    some (beginTurn a (.peek w) { s with link := { s.link with
      lock := some { seq := q, command := .peek b w true } } })
  | _ => some s

/-- The grant of a COPY (R27, R83). -/
def grantCopy (a : ArrayNo) (s : State) : Option State :=
  match copyChoice s a with
  | none => some s
  | some (i, e) =>
    match e.phase with
    | .active => some s
    | .copying src c =>
      match finOf? columns c, wordAt (sourceRow e src) c, wordAt (spareRow e.target) c with
      | some col, some sw, some tw =>
        some (beginTurn a (.copy { entry := i, source := src, target := e.target, column := col, void := false } sw tw) s)
      | _, _, _ => none

/-- The grant of a MIGRATE (R101). -/
def grantMigrate (a : ArrayNo) (s : State) : Option State :=
  match s.steerOf a with
  | .normal | .steered _ _ => some s
  | .migrating k c _ =>
    match finOf? wordsPerArray c with
    | some i => some (beginTurn a (.migrate k i false) s)
    | none => none

/-- The grant of a FILL (R120). -/
def grantFill (a : ArrayNo) (s : State) : Option State :=
  match s.scrub.fill with
  | none => some s
  | some p => some (beginTurn a (.fill p.index false) s)

/-- The grant of a SCRUB: the claim no longer waits (R114, R116). -/
def grantScrub (a : ArrayNo) (s : State) : Option State :=
  match wordAt (scrubRow s a s.scrub.cursor.row) s.scrub.cursor.column with
  | some w => some (beginTurn a (.scrub w false) { s with scrub := { s.scrub with claim := false } })
  | none => none

/-- The grant of a claim of a kind at an array: none where the claimant names a word the array does not have (log 19). -/
def grant (a : ArrayNo) (k : TurnKind) (s : State) : Option State :=
  match k with
  | .hostRead => grantHostRead a s
  | .drain => grantDrain a s
  | .peek => grantPeek a s
  | .copy => grantCopy a s
  | .migrate => grantMigrate a s
  | .fill => grantFill a s
  | .scrub => grantScrub a s

/-- TURN_GRANT (R32). -/
def execTurnGrant (a : ArrayNo) (s : State) : Host.Outcome State Fault Refusal :=
  match grantChoice s a with
  | none => .next s
  | some k =>
    match grant a k s with
    | some s' => .next s'
    | none => .fault .noSuchWord

end Sys2Proof.Machine
end

