-- ==== Sys2Proof/Machine/Turns.lean ====
section
/-! DEFINITION. The completions of turns (spec/03 R35 to R45): what each turn reads and writes, its occurrence, and its
result at the claimant; and SCRUB_INTERVAL_EXPIRY (spec/07 R116). -/

namespace Sys2Proof.Machine

/-- Stored words written at several places of an array: the rows of a dual write (R23). -/
def setWords (a : ArrayNo) (w : Stored) : List PhysIndex → State → State
  | [], s => s
  | i :: is, s => setWords a w is (s.setWord a i w)

/-- The sequencer of `a` idle again (R34). -/
def endTurn (a : ArrayNo) (s : State) : State := s.setTurn a none

/-- The decode of the word a turn reads at index `i`, under the steering record fixed at the grant (R24, R34). -/
def readIn (s : State) (a : ArrayNo) (r : SteerRecord) (i : PhysIndex) : Decoded := decodeWord r i.val (s.word a i)

/-- The corrected word of a FIXED decode written back to the word read (R8, R36, R42, R25); nothing for other classes. -/
def repairWrite (a : ArrayNo) (i : PhysIndex) (r : SteerRecord) (d : Decoded) (s : State) : State :=
  match d.cls with
  | .fixed n => s.setWord a i (withSpareLane r (invertLane d.lanes n))
  | .good | .poison | .blank | .fault => s

/-! ## HOST-READ (R36, R132, R151) -/

/-- The status of a read answered with its turn's class (R151). -/
def WordClass.status : WordClass → ReadStatus
  | .good => .good
  | .fixed _ => .fixed
  | .poison => .poison
  | .blank => .blank
  | .fault => .fault

/-- The data and status of a read at its turn's completion: merged with its snapshot where it holds one (R132, R151). -/
def readOutcome (snap : Option Snapshot) (d : Decoded) : Data × ReadStatus :=
  match snap with
  | none => (d.data, d.cls.status)
  | some p => (mergeBytes p.mask p.data d.data, if p.poisoned then .poison else d.cls.status)

/-- The result of a HOST-READ turn at the Host Port: the read found by its own record and answered, or, if it has been
discarded, nothing (R151). -/
def hostReadResult (place : Nat) (d : Decoded) (s : State) : State :=
  match s.port.reads.find? (fun r => r.place == place) with
  | none => s
  | some r =>
    answerRead r.tag (readOutcome r.snapshot d).1 (readOutcome r.snapshot d).2
      { s with port := { s.port with reads := s.port.reads.filter (fun x => x.place != place) } }

/-- A HOST-READ turn completes (R35, R36). -/
def completeHostRead (a : ArrayNo) (r : SteerRecord) (place : Nat) (i : PhysIndex) (repair : Bool) (flips : Stored)
    (s : State) : State :=
  let s1 := disturb a i flips s
  let d := readIn s1 a r i
  let s2 := if repair then repairWrite a i r d s1 else s1
  hostReadResult place d (endTurn a (report a i .hostRead d s2))

/-- HOST_READ_COMPLETE (R151). -/
def execHostReadComplete (a : ArrayNo) (flips : Stored) (s : State) : Host.Outcome State Fault Refusal :=
  .next (match s.turn a with
    | some { work := .hostRead place i repair, steer := r } => completeHostRead a r place i repair flips s
    | _ => s)

/-! ## DRAIN (R38, R137) -/

/-- The entry drained leaves the queue (R137). -/
def drainResult (w : BitVec 28) (s : State) : State := { s with queue := queueRemove s.queue w }

/-- A full-mask DRAIN: a write without a read (R38). -/
def drainFull (a : ArrayNo) (r : SteerRecord) (data : Data) (poisoned : Bool) (ws : List PhysIndex) (s : State) : State :=
  setWords a (storedWord r data poisoned) ws s

/-- A partial-mask DRAIN: a read-modify-write and its occurrence (R38, R43). -/
def drainPartial (a : ArrayNo) (r : SteerRecord) (data : Data) (mask : Byte) (poisoned : Bool) (rw : PhysIndex)
    (ws : List PhysIndex) (flips : Stored) (s : State) : State :=
  let s1 := disturb a rw flips s
  let d := readIn s1 a r rw
  report a rw .drain d
    (setWords a (storedWord r (mergeBytes mask data d.data) (poisoned || d.bad)) ws s1)

/-- DRAIN_COMPLETE (R137). -/
def execDrainComplete (a : ArrayNo) (flips : Stored) (s : State) : Host.Outcome State Fault Refusal :=
  .next (match s.turn a with
    | some { work := .drain w data mask poisoned rw ws, steer := r } =>
      drainResult w (endTurn a (
        if mask = fullMask then drainFull a r data poisoned ws s
        else drainPartial a r data mask poisoned rw ws flips s))
    | _ => s)

/-! ## PEEK (R45) -/

/-- The result bytes of a PEEK: the 73 lanes as stored and the class (13.6). -/
def peekBytes (w : Stored) (c : WordClass) : List Byte :=
  (List.range 9).map (fun b => w.extractLsb' (8 * b) 8) ++ [if w.getLsbD 72 then 1 else 0, c.code]

/-- The withheld reply of a PEEK whose turn has completed (R45, R187). -/
def answerPeek (result : List Byte) (s : State) : State :=
  match s.link.lock with
  | some { seq := q, command := .peek _ _ true } => unlock (reply q .ok result s)
  | _ => s

/-- PEEK_TURN_COMPLETE (R45). -/
def execPeekTurnComplete (a : ArrayNo) (flips : Stored) (s : State) : Host.Outcome State Fault Refusal :=
  .next (match s.turn a with
    | some { work := .peek i, steer := r } =>
      let s1 := disturb a i flips s
      answerPeek (peekBytes (s1.word a i) (readIn s1 a r i).cls) (endTurn a s1)
    | _ => s)

/-! ## COPY and MIGRATE (R39, R40) -/

/-- The stored word a COPY or MIGRATE turn writes for the word it read: clean for GOOD and FIXED, poisoned for POISON,
BLANK and FAULT (R39, R40). -/
def rewritten (r : SteerRecord) (d : Decoded) : Stored := storedWord r d.data d.bad

/-- The copy in hand on array `a` as it now stands (R83). -/
def copyHand (s : State) (a : ArrayNo) : Option CopyHand :=
  match s.turn a with
  | some { work := .copy h _ _, steer := _ } => some h
  | _ => none

/-- COPY_TURN_COMPLETE (R84): the write, the occurrence with what it sets off, then the result. -/
def execCopyTurnComplete (a : ArrayNo) (flips : Stored) (s : State) : Host.Outcome State Fault Refusal :=
  .next (match s.turn a with
    | some { work := .copy _ sw tw, steer := r } =>
      let s1 := disturb a sw flips s
      let d := readIn s1 a r sw
      let s2 := report a sw .copy d (s1.setWord a tw (rewritten r d))
      match copyHand s2 a with
      | some h => copyResult h (endTurn a s2)
      | none => endTurn a s2
    | _ => s)

/-- Whether the migration in hand on array `a` is void by now (R101). -/
def migrationVoid (s : State) (a : ArrayNo) : Bool :=
  match s.turn a with
  | some { work := .migrate _ _ v, steer := _ } => v
  | _ => true

/-- MIGRATE_TURN_COMPLETE (R102): the write, the occurrence with what it sets off, then the result. -/
def execMigrateTurnComplete (a : ArrayNo) (flips : Stored) (s : State) : Host.Outcome State Fault Refusal :=
  .next (match s.turn a with
    | some { work := .migrate _ i _, steer := r } =>
      let s1 := disturb a i flips s
      let d := readIn s1 a r i
      let s2 := report a i .migrate d (s1.setWord a i (rewritten r d))
      migrateResult a i (migrationVoid s2 a) (endTurn a s2)
    | _ => s)

/-! ## FILL and SCRUB (R41, R42) -/

/-- FILL_TURN_COMPLETE (R41, R121): the fill pattern, lane 72 by the record at the grant, then the result. -/
def execFillTurnComplete (a : ArrayNo) (s : State) : Host.Outcome State Fault Refusal :=
  .next (match s.turn a with
    | some { work := .fill i void, steer := r } =>
      fillResult a i void (endTurn a (s.setWord a i (storedWord r 0 false)))
    | _ => s)

/-- SCRUB_TURN_COMPLETE (R42, R117). -/
def execScrubTurnComplete (a : ArrayNo) (flips : Stored) (s : State) : Host.Outcome State Fault Refusal :=
  .next (match s.turn a with
    | some { work := .scrub i leftSet, steer := r } =>
      let s1 := disturb a i flips s
      let d := readIn s1 a r i
      scrubResult leftSet (endTurn a (report a i .scrub d (repairWrite a i r d s1)))
    | _ => s)

/-- SCRUB_INTERVAL_EXPIRY (R116): the timer restarted, a SCRUB claim placed if none waits. -/
def execScrubIntervalExpiry (s : State) : Host.Outcome State Fault Refusal :=
  .next (
    if s.params.scrubInterval = 0 then s
    else { s with scrub := { s.scrub with timer := s.params.scrubInterval, claim := true } })

end Sys2Proof.Machine
end

