-- ==== Sys2Proof/Machine/Dispatch.lean ====
section
/-! DEFINITION. One arm for each constructor of Instr. -/

namespace Sys2Proof.Machine

def exec (i : Instr) (s : State) : Host.Outcome State Fault Refusal :=
  match i with
  | .powerOn => Sys2Proof.Machine.execPowerOn s
  | .supplyDip => Sys2Proof.Machine.execSupplyDip s
  | .holdEnd => Sys2Proof.Machine.execHoldEnd s
  | .busResetAsserted => Sys2Proof.Machine.execBusResetAsserted s
  | .busResetReleased => Sys2Proof.Machine.execBusResetReleased s
  | .supplyWarningAsserted => Sys2Proof.Machine.execSupplyWarningAsserted s
  | .supplyWarningReleased => Sys2Proof.Machine.execSupplyWarningReleased s
  | .retentionExitEnd => Sys2Proof.Machine.execRetentionExitEnd s
  | .wakeEnd => Sys2Proof.Machine.execWakeEnd s
  | .quietEntryComplete => Sys2Proof.Machine.execQuietEntryComplete s
  | .drainToFrozen => Sys2Proof.Machine.execDrainToFrozen s
  | .readRequest tag addr => Sys2Proof.Machine.execReadRequest tag addr s
  | .writeRequest addr mask data parity => Sys2Proof.Machine.execWriteRequest addr mask data parity s
  | .requestWeighedAgain => Sys2Proof.Machine.execRequestWeighedAgain s
  | .turnGrant array => Sys2Proof.Machine.execTurnGrant array s
  | .hostReadComplete array flips => Sys2Proof.Machine.execHostReadComplete array flips s
  | .drainComplete array flips => Sys2Proof.Machine.execDrainComplete array flips s
  | .peekTurnComplete array flips => Sys2Proof.Machine.execPeekTurnComplete array flips s
  | .copyTurnComplete array flips => Sys2Proof.Machine.execCopyTurnComplete array flips s
  | .migrateTurnComplete array flips => Sys2Proof.Machine.execMigrateTurnComplete array flips s
  | .fillTurnComplete array => Sys2Proof.Machine.execFillTurnComplete array s
  | .scrubTurnComplete array flips => Sys2Proof.Machine.execScrubTurnComplete array flips s
  | .scrubIntervalExpiry => Sys2Proof.Machine.execScrubIntervalExpiry s
  | .linkGapTimeout => Sys2Proof.Machine.execLinkGapTimeout s
  | .discardingTimeout => Sys2Proof.Machine.execDiscardingTimeout s
  | .linkReject seq code args check => Sys2Proof.Machine.execLinkReject seq code args check s
  | .unknown seq code args => Sys2Proof.Machine.execUnknown seq code args s
  | .status seq args => Sys2Proof.Machine.execStatus seq args s
  | .getParam seq args => Sys2Proof.Machine.execGetParam seq args s
  | .setParam seq args => Sys2Proof.Machine.execSetParam seq args s
  | .openPort seq args => Sys2Proof.Machine.execOpenPort seq args s
  | .closePort seq args => Sys2Proof.Machine.execClosePort seq args s
  | .fill seq args => Sys2Proof.Machine.execFill seq args s
  | .quiesce seq args => Sys2Proof.Machine.execQuiesce seq args s
  | .wake seq args => Sys2Proof.Machine.execWake seq args s
  | .restart seq args => Sys2Proof.Machine.execRestart seq args s
  | .readCauses seq args => Sys2Proof.Machine.execReadCauses seq args s
  | .clearCauses seq args => Sys2Proof.Machine.execClearCauses seq args s
  | .clearFlags seq args => Sys2Proof.Machine.execClearFlags seq args s
  | .setEnables seq args => Sys2Proof.Machine.execSetEnables seq args s
  | .peek seq args => Sys2Proof.Machine.execPeek seq args s
  | .mapRead seq args => Sys2Proof.Machine.execMapRead seq args s
  | .mapDelete seq args => Sys2Proof.Machine.execMapDelete seq args s
  | .mapPurge seq args => Sys2Proof.Machine.execMapPurge seq args s
  | .condemnRow seq args => Sys2Proof.Machine.execCondemnRow seq args s
  | .subCancel seq args => Sys2Proof.Machine.execSubCancel seq args s
  | .subLoad seq args => Sys2Proof.Machine.execSubLoad seq args s
  | .spareRetire seq args => Sys2Proof.Machine.execSpareRetire seq args s
  | .subRead seq args => Sys2Proof.Machine.execSubRead seq args s
  | .spareRead seq args => Sys2Proof.Machine.execSpareRead seq args s
  | .condemnLane seq args => Sys2Proof.Machine.execCondemnLane seq args s
  | .laneCancel seq args => Sys2Proof.Machine.execLaneCancel seq args s
  | .laneLoad seq args => Sys2Proof.Machine.execLaneLoad seq args s
  | .laneRead seq args => Sys2Proof.Machine.execLaneRead seq args s
  | .scrubRead seq args => Sys2Proof.Machine.execScrubRead seq args s
  | .byteArrives byte => Sys2Proof.Machine.execByteArrives byte s
  | .responseSent => Sys2Proof.Machine.execResponseSent s

end Sys2Proof.Machine
end

