-- ==== Sys2Proof/Safety.lean ====
section
/-! DEFINITION. What holds of the block in every state it can reach: one invariant for each block, as the rules state it,
and the words the statements use for a frame that will be executed. Every Prop here is decidable. -/

namespace Sys2Proof.Machine

/-! ## Invariants, block by block -/

/-- Every parameter lies in its range (R192's table). -/
abbrev ParamsOk (p : Params) : Prop :=
  (1 ≤ p.suspectAt ∧ p.suspectAt ≤ 15) ∧ (1 ≤ p.rowLanes ∧ p.rowLanes ≤ 8) ∧ (1 ≤ p.laneRows ∧ p.laneRows ≤ 16) ∧
  p.scrubInterval ≤ 65535 ∧ (1 ≤ p.highWater ∧ p.highWater ≤ 16)

/-- A Fault Map entry holds values of R50's ranges; its last uncorrectable class is present exactly when its lane is
absent (R50), and an entry with an absent lane is never WATCH (4.3's table). -/
abbrev MapEntryOk (e : MapEntry) : Prop :=
  e.row < physRows ∧ (1 ≤ e.occurrences ∧ e.occurrences ≤ 15) ∧ e.lastColumn < columns ∧
  e.lane.isNone = e.lastClass.isSome ∧ (e.lane = none → e.state ≠ .watch)

/-- The Fault Map: entries in range, no two with one key (R49), the recency order over exactly the occupied slots (R51). -/
abbrev MapOk (m : FaultMap) : Prop :=
  (∀ i : Fin 64, ∀ e ∈ m.slot i, MapEntryOk e) ∧
  (∀ i j : Fin 64, ∀ e ∈ m.slot i, ∀ f ∈ m.slot j,
    e.array = f.array → e.row = f.row → e.lane = f.lane → i = j) ∧
  m.recency.Nodup ∧ (∀ i : Fin 64, i ∈ m.recency ↔ (m.slot i).isSome = true)

/-- Whether an entry has a spare as its target or as its source (R74). -/
def SubEntry.uses (t : SpareNo) (e : SubEntry) : Bool := e.target == t || e.sourceIs t

/-- A Substitution Table entry holds values of R73's ranges, its cursor below 1,024 while it is COPYING (R84, R85), and
its copy does not read the spare it writes (R74). -/
abbrev SubEntryOk (e : SubEntry) : Prop :=
  e.hostRow < hostRows ∧ e.sourceIs e.target = false ∧
  (match e.phase with
   | .copying _ c => decide (c < columns)
   | .active => true) = true

/-- The Substitution Table and the spares (R74): each (array, host row) in at most one entry, each spare used by at most
one entry, and IN-USE exactly when one uses it. -/
abbrev SubsOk (s : State) : Prop :=
  (∀ i : Fin 32, ∀ e ∈ s.subs.table.get i, SubEntryOk e) ∧
  (∀ i j : Fin 32, ∀ e ∈ s.subs.table.get i, ∀ f ∈ s.subs.table.get j,
    e.array = f.array → e.hostRow = f.hostRow → i = j) ∧
  (∀ i j : Fin 32, ∀ e ∈ s.subs.table.get i, ∀ f ∈ s.subs.table.get j,
    e.array = f.array → ∀ t : SpareNo, e.uses t = true → f.uses t = true → i = j) ∧
  (∀ (a : ArrayNo) (t : SpareNo), s.spare a t = .inUse ↔
    ∃ i : Fin 32, (s.subs.table.get i).any (fun e => decide (e.array = a) && e.uses t) = true)

/-- A migration cursor stays below 33,570,816 while its record is MIGRATING (R102, R103). -/
abbrev SteerOk (s : State) : Prop :=
  ∀ a : ArrayNo, (match s.steerOf a with
    | .migrating _ c _ => decide (c < wordsPerArray)
    | .normal => true
    | .steered _ _ => true) = true

/-- The scrub cursor stands on a physical word of an installed array (R111, R112, R119). -/
abbrev ScrubOk (s : State) : Prop :=
  installed s s.scrub.cursor.array = true ∧ s.scrub.cursor.row < physRows ∧ s.scrub.cursor.column < columns

/-- The Write Queue (R124): at most 16 entries, distinct in-range addresses, each with its home array, a mask with at
least one byte, zero bytes outside it (log 15), and a mark among the places given. -/
abbrev QueueOk (s : State) : Prop :=
  s.queue.length ≤ 16 ∧ (s.queue.map WriteEntry.addr).Nodup ∧
  ∀ e ∈ s.queue, inRange s.params.arrays e.addr = true ∧ e.array = (homeOf s.params.arrays e.addr).array ∧
    e.mask ≠ 0 ∧ mergeBytes e.mask e.data 0 = e.data ∧ e.mark < s.port.nextPlace

/-- The Outstanding Read List (R147): at most 8 reads, distinct tags, in take order, each with an in-range address and its
home location. -/
abbrev ReadsOk (s : State) : Prop :=
  s.port.reads.length ≤ 8 ∧ (s.port.reads.map OutRead.tag).Nodup ∧
  s.port.reads.Pairwise (fun r r' => r.place < r'.place) ∧
  ∀ r ∈ s.port.reads, inRange s.params.arrays r.addr = true ∧ r.home = homeOf s.params.arrays r.addr ∧
    r.place < s.port.nextPlace

/-- The path states in which no turn is granted (R33). -/
def PathState.grantsNothing : PathState → Bool
  | .hold | .quiet | .waking | .frozen => true
  | .setup | .filling | .opened | .enteringQuiet | .draining => false

/-- Whether the command in execution is a withheld QUIESCE (R187). -/
def quiesceWithheld (s : State) : Bool :=
  match s.link.lock with
  | some { seq := _, command := .quiesce } => true
  | _ => false

/-- Whether the command in execution is a PEEK whose claim waits (R44, R46). -/
def peekWaits (s : State) : Bool :=
  match s.link.lock with
  | some { seq := _, command := .peek _ _ false } => true
  | _ => false

/-- The Path Controller with the blocks it reports to: the part is still in HOLD, QUIET, WAKING and FROZEN (R163, R167,
R168); a QUIESCE is withheld exactly in ENTERING-QUIET (R162); a PEEK waits only in SETUP, FILLING and OPEN (R44, R46); a
request waits only in OPEN and WAKING and never under bus reset (R144, R145, R155); the warning is asserted in DRAINING,
in FROZEN outside a retention exit, and else only in HOLD (R159, R167, R168); the resume state follows SETUP, FILLING and
OPEN (R157). -/
abbrev PathOk (s : State) : Prop :=
  (s.path.path.grantsNothing = true → still s = true) ∧
  (quiesceWithheld s = true ↔ s.path.path = .enteringQuiet) ∧
  (peekWaits s = true → s.path.path = .setup ∨ s.path.path = .filling ∨ s.path.path = .opened) ∧
  (s.port.waiting.isSome = true → (s.path.path = .opened ∨ s.path.path = .waking) ∧ s.busReset = false) ∧
  (s.path.path = .draining → s.supplyWarning = true) ∧
  (s.path.path = .frozen → s.supplyWarning = !s.path.retentionExit) ∧
  (s.path.path ≠ .hold → s.path.path ≠ .draining → s.path.path ≠ .frozen → s.supplyWarning = false) ∧
  (s.path.retentionExit = true → s.path.path = .frozen) ∧
  (s.path.path = .setup → s.path.resume = .setup) ∧
  (s.path.path = .filling → s.path.resume = .filling) ∧
  (s.path.path = .opened → s.path.resume = .opened)

/-- The receiver: bytes gathered only outside HOLD (R188), and those of a frame whose length is one of 2 to 14, never more
than its check leaves to come (R179). -/
abbrev ReceiverOk (s : State) : Prop :=
  (s.path.path = .hold → s.link.receiver = .awaitMarker) ∧
  (match s.link.receiver with
   | .inFrame (l :: g) => goodLength l && decide (g.length ≤ l.toNat)
   | .inFrame [] => true
   | .awaitMarker => true
   | .discarding => true) = true

/-- All of it together. -/
abbrev Inv (s : State) : Prop :=
  ParamsOk s.params ∧ Memory.wf s.mem ∧ MapOk s.map ∧ SubsOk s ∧ SteerOk s ∧ ScrubOk s ∧ QueueOk s ∧ ReadsOk s ∧
  PathOk s ∧ ReceiverOk s

/-! ## Words for the statements -/

/-- A frame with sequence `q` and these argument bytes can arrive whole and will be executed: the link answers (R188), the
receiver awaits a marker (R179), no command is in execution, and the store does not hold the sequence (R185). -/
abbrev WillExecute (q : Byte) (args : List Byte) (s : State) : Prop :=
  s.path.path ≠ .hold ∧ args.length ≤ 12 ∧ s.link.receiver = .awaitMarker ∧ s.link.lock = none ∧
  s.link.store.map Response.seq ≠ some q

/-- The state in which the response of an executed command has been formed and stored, and nothing else has changed
(R184, R186). -/
def State.withReply (s : State) (q : Byte) (st : LinkStatus) (result : List Byte) : State :=
  { s with link := { s.link with
      responses := s.link.responses ++ [{ seq := q, status := st, result := result }]
      store := some { seq := q, status := st, result := result } } }

/-- The state in which the flags have been raised and nothing else has changed (R173). -/
def State.withFlags (s : State) (mask : BitVec 11) : State :=
  { s with alert := { s.alert with flags := s.alert.flags ||| mask } }

/-- The state in which the Alert Unit is `u`; in QUIET a condition that comes to hold has begun a wake (R165, R174, R175). -/
def State.withAlert (s : State) (u : AlertUnit) : State :=
  let comes := s.path.path = .quiet ∧ (s.alert.master && (s.alert.flags &&& s.alert.enables) != 0) = false ∧
    (u.master && (u.flags &&& u.enables) != 0) = true
  let p := if comes then PathState.waking else s.path.path
  { s with alert := u, path := { s.path with path := p } }

/-- The state in which the flags have been raised, whatever the path state (R173, R175). -/
def State.raised (s : State) (mask : BitVec 11) : State :=
  s.withAlert { s.alert with flags := s.alert.flags ||| mask }

/-- The state in which the path state and the resume state are these and nothing else has changed. -/
def State.withPath (s : State) (p : PathState) (r : ResumeState) : State :=
  { s with path := { s.path with path := p, resume := r } }

/-- The answer of a request refused for the path state (R152, R153): a read gets eight zero bytes in even parity. -/
def closedAnswer (r : Request) : PortAnswer :=
  match r with
  | .read tag _ => .read tag 0 0 .closed
  | .write _ _ _ _ => .write .closed

/-- The stored word at every place but one is as it was. -/
abbrev WordsKeptBut (a : ArrayNo) (places : List PhysIndex) (s t : State) : Prop :=
  ∀ (b : ArrayNo) (j : PhysIndex), ¬(b = a ∧ j ∈ places) → t.word b j = s.word b j

/-- What a turn's occurrence may change, equal in two states: Fault Map, repair state, alerts, path state (R35, R52). -/
abbrev SameControl (u t : State) : Prop :=
  t.map = u.map ∧ t.subs = u.subs ∧ t.steer = u.steer ∧ t.alert = u.alert ∧ t.path = u.path

/-- What no turn changes: the parameters, the lines, the reset count and the commands to come. -/
abbrev SameSetting (s t : State) : Prop :=
  t.params = s.params ∧ t.busReset = s.busReset ∧ t.supplyWarning = s.supplyWarning ∧ t.epoch = s.epoch ∧
  t.pending = s.pending

/-- The sequencer of `a` is idle again and the others are as they were (R29, R34). -/
abbrev OnlyTurnEnded (a : ArrayNo) (s t : State) : Prop :=
  t.turn a = none ∧ ∀ b : ArrayNo, b ≠ a → t.turn b = s.turn b

/-- The word a turn at `a` reads at index `i` when the lanes `flips` have changed since it was written (log 3), decoded
under the record fixed at the grant. -/
def decodeNow (s : State) (a : ArrayNo) (i : PhysIndex) (r : SteerRecord) (flips : Stored) : Decoded :=
  decodeWord r i.val (s.word a i ^^^ flips)

/-- The command code of the good frame that byte `b` completes on the command line, where it completes one (R179, R180,
R188). -/
def completedCode (b : Byte) (s : State) : Option Byte :=
  if s.path.path = .hold then none
  else match s.link.receiver with
    | .inFrame (l :: q :: code :: args) =>
      if l.toNat ≤ args.length + 2 ∧ crc (l :: q :: code :: args) = b then some code else none
    | _ => none

/-- An entry of the Write Queue is eligible: not in drain, and held by no outstanding read of its address that waits for its
turn and was taken before the entry's latest merge (R133, R135). -/
abbrev Eligible (s : State) (e : WriteEntry) : Prop :=
  e.inDrain = false ∧ ¬∃ r ∈ s.port.reads, r.addr = e.addr ∧ r.inTurn = false ∧ r.place < e.mark

/-- An outstanding read waits for its turn at an array (R30, R147). -/
abbrev WaitsAt (a : ArrayNo) (r : OutRead) : Prop := r.home.array = a ∧ r.inTurn = false

/-- A position of the scrub walk stands at or after another in walk order (R112). -/
abbrev NotBefore (a : ArrayNo) (row : Nat) (b : ArrayNo) (r : Nat) : Prop := a < b ∨ (a = b ∧ row ≤ r)

/-- The entry of an occurrence's key becomes SUSPECT by the test of R58: at the update of a WATCH entry (R53), or at the
creation of an entry (R54, R55) when SUSPECT-AT is 1. -/
abbrev BecomesSuspect (s : State) (o : Occurrence) : Prop :=
  (∃ i : Fin 64, ∃ e ∈ s.map.slot i, o.hasKey e = true ∧ e.state = .watch ∧
    s.params.suspectAt ≤ min 15 (e.occurrences + 1)) ∨
  ((∀ i : Fin 64, ∀ e ∈ s.map.slot i, o.hasKey e = false) ∧ s.params.suspectAt ≤ 1 ∧
    ∃ i : Fin 64, ∀ e ∈ s.map.slot i, e.state = .watch)

/-- The SUSPECT lanes of a row, which R61 counts. -/
def lanesSuspect (s : State) (a : ArrayNo) (row : Nat) : Nat :=
  (List.finRange 64).countP (fun j => (s.map.slot j).any (fun e =>
    decide (e.array = a ∧ e.row = row ∧ e.lane ≠ none ∧ e.state = .suspect)))

/-- The SUSPECT rows of a lane of an array, which R62 counts. -/
def rowsSuspect (s : State) (a : ArrayNo) (l : PhysLane) : Nat :=
  (List.finRange 64).countP (fun j => (s.map.slot j).any (fun e =>
    decide (e.array = a ∧ e.lane = some l ∧ e.state = .suspect)))

/-- An occurrence condemns its row: a FAULT does (R60); a FIXED one when its entry becomes SUSPECT and the row's SUSPECT
lanes, that one among them, reach ROW-LANES (R61). -/
abbrev CondemnsRow (s : State) (o : Occurrence) : Prop :=
  o.error = .fault ∨
  (o.error.lane ≠ none ∧ BecomesSuspect s o ∧ s.params.rowLanes ≤ lanesSuspect s o.array o.row + 1)

/-- An occurrence condemns lane `l` of its array: a FIXED one on it when its entry becomes SUSPECT and the lane's SUSPECT
rows, that one among them, reach LANE-ROWS (R62). -/
abbrev CondemnsLane (s : State) (o : Occurrence) (l : PhysLane) : Prop :=
  o.error = .fixed l ∧ BecomesSuspect s o ∧ s.params.laneRows ≤ rowsSuspect s o.array l + 1

/-- A slot of the Fault Map before and after an occurrence of another key: empty as before, or the same entry, its state as
it was or CONDEMNED where it describes the occurrence's row or lane (R63). -/
abbrev KeptOrCondemned (o : Occurrence) (before after : Option MapEntry) : Prop :=
  (before = none → after = none) ∧
  ∀ x ∈ before, ∃ y ∈ after, { y with state := x.state } = x ∧
    (y.state = x.state ∨ (y.state = .condemned ∧ x.array = o.array ∧
      (x.row = o.row ∨ (o.error.lane ≠ none ∧ x.lane = o.error.lane))))

/-- A condemnation that raises no NO-SPARE and makes no turn in hand void (R78, R81, R98). -/
abbrev NoSpareAndTurnsKept (s t : State) : Prop :=
  t.turns = s.turns ∧ t.alert.flags.getLsbD 6 = s.alert.flags.getLsbD 6

/-- Bytes that arrive one after another on the command line. -/
def afterBytes : List Byte → State → Host.Outcome State Fault Refusal
  | [], s => .next s
  | b :: bs, s =>
    match exec (.byteArrives b) s with
    | .next t => afterBytes bs t
    | .fault f => .fault f
    | .refused r => .refused r

end Sys2Proof.Machine
end

