-- ==== Sys2Proof/Certificates/Slice0/Obligations.lean ====
section
/-! DEFINITION. The statements for the provers. A statement whose docstring says MODEL rests on a choice of the model's that
the named log entry records. -/

open Sys2Proof Sys2Proof.Machine

/-! ## The machine -/

/-- MODEL (log 1): a step runs the command at the front of the queue, and idles on an empty queue. MODEL (log 1): no
command's effect touches the queue of waiting commands. -/
def Obligations.StepRunsFrontCommand : Prop :=
  (∀ s : State,
      (∀ (c : Instr) (rest : List Instr), s.pending = c :: rest → step s = exec c { s with pending := rest }) ∧
      (s.pending = [] → step s = .next s)) ∧
  (∀ (c : Instr) (s t : State), exec c s = .next t → t.pending = s.pending)

/-- The values the owning chapters give for a power-on reset (R16, R37, R59, R72, R75, R82, R95, R100, R111, R115, R138,
R140, R147, R157, R171, R172, R188). R160, R171, and MODEL (log 4, 10, 16): a power-on and a supply dip return every piece
of state to its reset value; they differ in the reset-cause record alone. -/
def Obligations.ResetsSetTheirValues : Prop :=
  (State.reset.path = { path := .hold, resume := .setup, lastQuiet := .noOutcome, retentionExit := false,
                        causes := { flags := 1, last := .powerOn } } ∧
   State.reset.params = { arrays := .one, suspectAt := 2, rowLanes := 2, laneRows := 4, autoSub := true,
                          autoSteer := true, repairRead := true, scrubInterval := 0, highWater := 12 } ∧
   (∀ i : Fin 64, State.reset.map.slot i = none) ∧ State.reset.map.recency = [] ∧
   (∀ i : Fin 32, State.reset.subs.table.get i = none) ∧
   (∀ (a : ArrayNo) (t : SpareNo), State.reset.spare a t = .free) ∧
   (∀ a : ArrayNo, State.reset.steerOf a = .normal) ∧ (∀ a : ArrayNo, State.reset.turn a = none) ∧
   State.reset.scrub.cursor = { array := 0, row := 0, column := 0 } ∧ State.reset.scrub.pass = 0 ∧
   State.reset.scrub.claim = false ∧ State.reset.scrub.fill = none ∧
   State.reset.queue = [] ∧ State.reset.port.reads = [] ∧ State.reset.port.waiting = none ∧
   State.reset.alert = { flags := 0, enables := 0, master := false } ∧
   State.reset.link = { receiver := .awaitMarker, lock := none, store := none, responses := [] }) ∧
  (∀ s : State,
     exec .powerOn s = .next { State.reset with
       epoch := s.epoch + 1
       port := { State.reset.port with answers := s.port.answers }
       busReset := s.busReset, supplyWarning := s.supplyWarning, pending := s.pending } ∧
     exec .supplyDip s = .next { State.reset with
       epoch := s.epoch + 1
       port := { State.reset.port with answers := s.port.answers }
       path := { path := .hold, resume := .setup, lastQuiet := .noOutcome, retentionExit := false,
                 causes := { flags := s.path.causes.flags ||| 2, last := .supplyDip } }
       busReset := s.busReset, supplyWarning := s.supplyWarning, pending := s.pending })

/-- The invariant holds at reset. -/
def Obligations.InvariantHoldsAtReset : Prop :=
  Inv State.reset

/-- MODEL (log 4): every step keeps the canonical form of the list of stored words. R17: a stored word reads as it was last
written, and a write leaves every other word alone. -/
def Obligations.StoredWordsAreKept : Prop :=
  (∀ s t : State, Memory.wf s.mem → step s = .next t → Memory.wf t.mem) ∧
  (∀ (s : State) (a b : ArrayNo) (i j : PhysIndex) (w : Stored),
     (s.setWord a i w).word b j = if b = a ∧ j = i then w else s.word b j)

/-- R49, R50, R51: every step keeps the Fault Map's keys distinct, its entries in range and its recency order over exactly
the occupied slots. -/
def Obligations.StepsKeepFaultMap : Prop :=
  ∀ s t : State, MapOk s.map → step s = .next t → MapOk t.map

/-- R73, R74: every step keeps each (array, host row) in at most one entry, each spare used by at most one entry, and a
spare IN-USE exactly when one uses it. -/
def Obligations.StepsKeepSubstitutions : Prop :=
  ∀ s t : State, SubsOk s → step s = .next t → SubsOk t

/-- R124, R147: every step keeps the Write Queue within 16 entries of distinct addresses and the Outstanding Read List
within 8 reads of distinct tags.
MODEL (log 15): an entry keeps zero bytes outside its mask. -/
def Obligations.StepsKeepQueueAndReads : Prop :=
  ∀ s t : State, QueueOk s → ReadsOk s → step s = .next t → QueueOk t ∧ ReadsOk t

/-- R33, R46, R155, R157, R162 to R168: every step keeps the path state in agreement with the rest of the part.
MODEL (log 7, 21): requests are weighed at the change, retention is the path state. -/
def Obligations.StepsKeepPathState : Prop :=
  ∀ s t : State, PathOk s → step s = .next t → PathOk t

/-- R94, R111, R179, R188, R192: every step keeps the parameters in range, the cursors on physical words, and the receiver
within a frame. -/
def Obligations.StepsKeepRanges : Prop :=
  ∀ s t : State, step s = .next t →
    (ParamsOk s.params → ParamsOk t.params) ∧ (SteerOk s → SteerOk t) ∧ (ScrubOk s → ScrubOk t) ∧
    (ReceiverOk s → ReceiverOk t)

/-- R28 ("Resolution cannot fail"): from every state that meets the invariant a step answers a next state, and the
invariant holds there. -/
def Obligations.StepsNeverStop : Prop :=
  ∀ s : State, Inv s → ∃ t : State, step s = .next t ∧ Inv t

/-- R173, R176: a set flag stays set through every command but CLEAR-FLAGS and RESTART (each as a row or as the last byte of
its good frame) and the two resets that clear them. -/
def Obligations.FlagsStaySetUntilCleared : Prop :=
  ∀ (c : Instr) (s t : State) (f : AlertFlag), exec c s = .next t →
    (∀ q args, c ≠ .clearFlags q args) → (∀ q args, c ≠ .restart q args) →
    (∀ b, c = .byteArrives b → completedCode b s ≠ some 0x20 ∧ completedCode b s ≠ some 0x15) →
    c ≠ .powerOn → c ≠ .supplyDip →
    s.alert.flags.getLsbD f.bit = true → t.alert.flags.getLsbD f.bit = true

/-- R94, R74: a STEERED record stays as it is, and a RETIRED spare stays RETIRED, through every command but the two resets
that clear them. -/
def Obligations.SteeredAndRetiredStay : Prop :=
  ∀ (c : Instr) (s t : State), exec c s = .next t → c ≠ .powerOn → c ≠ .supplyDip →
    (∀ (a : ArrayNo) (k : CodedLane) (o : RepairOrigin), s.steerOf a = .steered k o → t.steerOf a = .steered k o) ∧
    (SubsOk s → ∀ (a : ArrayNo) (p : SpareNo), s.spare a p = .retired → t.spare a p = .retired)

/-- R29, R34, R35: no command but the completion of a turn, and the resets that leave the arrays undefined, changes a stored
word. R192's table: no command but SET-PARAM and RESTART (each as a row or as the last byte of its good frame) and the
resets changes a parameter. -/
def Obligations.WordsAndParametersChangeByTheirCommands : Prop :=
  (∀ (c : Instr) (s t : State), exec c s = .next t → c ≠ .powerOn → c ≠ .supplyDip →
     (∀ a, c ≠ .fillTurnComplete a) →
     (∀ a f, c ≠ .hostReadComplete a f ∧ c ≠ .drainComplete a f ∧ c ≠ .peekTurnComplete a f ∧
       c ≠ .copyTurnComplete a f ∧ c ≠ .migrateTurnComplete a f ∧ c ≠ .scrubTurnComplete a f) →
     t.mem = s.mem ∧ t.epoch = s.epoch) ∧
  (∀ (c : Instr) (s t : State), exec c s = .next t → c ≠ .powerOn → c ≠ .supplyDip →
    (∀ q args, c ≠ .setParam q args ∧ c ≠ .restart q args) →
    (∀ b, c = .byteArrives b → completedCode b s ≠ some 0x03 ∧ completedCode b s ≠ some 0x15) →
    t.params = s.params)

/-! ## The stored word -/

/-- R2's table, as R2 says it is built: the weight-3 values ascending, the eight smallest weight-5 values, the single bits. The
codes are distinct and of odd weight; the odd-weight values that are no code are the weight-5 values above 57h and those of
weight 7; a value that is no code names no lane, and each code names its own. R12: a word of zeros decodes BLANK, a word of
ones FAULT, with the values R12 gives on the way. -/
def Obligations.LaneCodesAndExtremeWords : Prop :=
  (laneCodes =
     ((List.range 256).map (BitVec.ofNat 8)).filter (fun b => (List.range 8).countP (fun i => b.getLsbD i) == 3)
     ++ (((List.range 256).map (BitVec.ofNat 8)).filter
         (fun b => (List.range 8).countP (fun i => b.getLsbD i) == 5)).take 8
     ++ (List.range 8).map (BitVec.twoPow 8) ∧
   laneCodes.length = 72 ∧ laneCodes.Nodup ∧ laneCodes.all onesOdd = true ∧
   (∀ b : Byte, (onesOdd b = true ∧ b ∉ laneCodes) ↔
     ((List.range 8).countP (fun i => b.getLsbD i) = 5 ∧ 0x57 < b) ∨
       (List.range 8).countP (fun i => b.getLsbD i) = 7) ∧
   (∀ b : Byte, b ∉ laneCodes → laneOfCode b = none) ∧
   (∀ n : CodedLane, laneOfCode (laneCode n.val) = some n)) ∧
  (classify 0 = .blank ∧ classify (BitVec.allOnes 72) = .fault ∧
   dataCheck (BitVec.allOnes 64) = 0xD8 ∧ checkLanes (BitVec.allOnes 72) = 0xFF ∧
   syndrome (BitVec.allOnes 72) = 0xA6 ∧
   (List.range 8).countP (fun i => (0xA6 : Byte).getLsbD i) = 4 ∧ (0xA6 : Byte) ≠ inversionMask ∧ (0xA6 : Byte) ≠ poisonMark)

/-- R4, R6, R7, R8, R9: a word written clean decodes GOOD with its data; with any one coded lane flipped it decodes FIXED,
naming that lane, with its data, and the corrected word is the word as written. -/
def Obligations.OneFlippedLaneIsCorrected : Prop :=
  ∀ d : Data,
    classify (encode d false) = .good ∧ delivered (encode d false) .good = d ∧
    ∀ n : CodedLane,
      classify (invertLane (encode d false) n) = .fixed n ∧
      delivered (invertLane (encode d false) n) (.fixed n) = d ∧
      invertLane (invertLane (encode d false) n) n = encode d false

/-- R5, R7, R9: a word written poisoned decodes POISON with its data; with one coded lane flipped it decodes FIXED, naming
the lane whose code is P exclusive-or the flipped lane's code, when there is one, and FAULT otherwise. -/
def Obligations.PoisonedWordsAreKnown : Prop :=
  ∀ d : Data,
    classify (encode d true) = .poison ∧ delivered (encode d true) .poison = d ∧
    ∀ n : CodedLane,
      classify (invertLane (encode d true) n) =
        (match laneOfCode (poisonMark ^^^ laneCode n.val) with
         | some m => .fixed m
         | none => .fault)

/-- R9: a clean word with two flipped lanes decodes POISON when the two lane codes differ by P, BLANK when it reads all
zero, FAULT otherwise: never GOOD and never FIXED. -/
def Obligations.TwoFlippedLanesAreNeverGood : Prop :=
  ∀ (d : Data) (n m : CodedLane), n ≠ m →
    classify (invertLane (invertLane (encode d false) n) m) =
      (if laneCode n.val ^^^ laneCode m.val = poisonMark then .poison
       else if invertLane (invertLane (encode d false) n) m = 0 then .blank
       else .fault)

/-- R24, R25: under every steering record and at every index, a word written clean reads GOOD and a word written poisoned
reads POISON, with the data written. R24, R26: with lane 72 in the place of lane k, a clean word whose lane 72 has
flipped decodes FIXED and is charged to lane 72; a flipped lane k is not seen; another flipped lane n is charged to n. -/
def Obligations.SteeredWordsReadAsWrittenOrCharged : Prop :=
  (∀ (r : SteerRecord) (i : Nat) (d : Data) (p : Bool),
      (decodeWord r i (storedWord r d p)).cls = (if p then .poison else .good) ∧
      (decodeWord r i (storedWord r d p)).data = d) ∧
  (∀ (k n : CodedLane) (c i : Nat) (o : RepairOrigin) (d : Data) (r : SteerRecord),
      (r = .steered k o ∨ (r = .migrating k c o ∧ i < c)) →
      (decodeWord r i (storedWord r d false ^^^ BitVec.twoPow 73 72)).error = some (.fixed 72) ∧
      (decodeWord r i (storedWord r d false ^^^ BitVec.twoPow 73 k.val)).error = none ∧
      (n ≠ k → (decodeWord r i (storedWord r d false ^^^ BitVec.twoPow 73 n.val)).error = some (.fixed n.castSucc)))

/-- R10, R11: good data is sent with every byte in odd parity and other data with every byte in even parity; a write fails
its parity exactly when some byte under its mask, with its parity bit, holds an even number of ones. -/
def Obligations.ByteParityIsOdd : Prop :=
  ∀ (d : Data) (b : Nat), b < 8 →
    (onesOdd (byteOf d b) ^^ (sentParity d true).getLsbD b) = true ∧
    (onesOdd (byteOf d b) ^^ (sentParity d false).getLsbD b) = false ∧
    ∀ (mask parity : Byte), parityFails mask d parity = true ↔
      ∃ j < 8, mask.getLsbD j = true ∧ (onesOdd (byteOf d j) ^^ parity.getLsbD j) = false

/-! ## Arrays and resolution -/

/-- R19, R20: the home location of every address by R19's three formulas, its physical index W div N, in a host row of an
installed array when the address is in range; no two addresses share one. -/
def Obligations.HomeLocations : Prop :=
  ∀ (n : ArrayCount) (w : BitVec 28),
    (inRange n w = true ↔ w.toNat < n.count * 33554432) ∧
    (homeOf n w).array.val = w.toNat % n.count ∧
    (homeOf n w).row = w.toNat / n.count / 1024 ∧
    (homeOf n w).column = w.toNat / n.count % 1024 ∧
    (homeOf n w).row * 1024 + (homeOf n w).column = w.toNat / n.count ∧
    (inRange n w = true → (homeOf n w).array.val < n.count ∧ (homeOf n w).row < 32768 ∧ (homeOf n w).column < 1024) ∧
    (∀ v : BitVec 28, homeOf n v = homeOf n w → v = w)

/-- R22, R23: the row a read is served from and the rows a drain writes, by the two tables, where each host row is in at most
one entry (R74); and the row a read would be served from is always among the rows a drain writes. -/
def Obligations.RowsByTheTables : Prop :=
  ∀ (s : State) (a : ArrayNo) (row column : Nat),
    readRow s a row column ∈ writeRows s a row column ∧
    ((∀ (i : Fin 32) (e : SubEntry), s.subs.table.get i = some e → ¬(e.array = a ∧ e.hostRow = row)) →
      readRow s a row column = row ∧ writeRows s a row column = [row]) ∧
    (∀ (i : Fin 32) (e : SubEntry), SubsOk s → s.subs.table.get i = some e → e.array = a → e.hostRow = row →
      (e.phase = .active →
        readRow s a row column = 32768 + e.target.val ∧ writeRows s a row column = [32768 + e.target.val]) ∧
      (∀ (src : CopySource) (c origin : Nat), e.phase = .copying src c →
        ((src = .hostRow ∧ origin = row) ∨ (∃ p : SpareNo, src = .spare p ∧ origin = 32768 + p.val)) →
        (column < c →
          readRow s a row column = 32768 + e.target.val ∧
          writeRows s a row column = [origin, 32768 + e.target.val]) ∧
        (c ≤ column → readRow s a row column = origin ∧ writeRows s a row column = [origin])))

/-! ## Resets, the lines and the path state -/

/-- R159: HOLD ends in SETUP, or in DRAINING with SETUP as the resume state and SUPPLY raised; not while the bus reset
line is asserted. R166: at the end of WAKING the path state becomes the resume state; a request kept waiting is
weighed there, and answered CLOSED unless that is OPEN. MODEL (log 5, 7): the ends are commands, and a waiting request
is weighed at the change of path state. -/
def Obligations.HoldAndWakeEnd : Prop :=
  (∀ s : State, s.path.path = .hold → s.port.waiting = none → s.link.lock = none →
      (s.busReset = false → s.supplyWarning = false → exec .holdEnd s = .next (s.withPath .setup .setup)) ∧
      (s.busReset = false → s.supplyWarning = true →
        exec .holdEnd s = .next ((s.withPath .draining .setup).withFlags 0x200)) ∧
      (s.busReset = true → exec .holdEnd s = .next s)) ∧
  (∀ s : State, s.path.path = .waking →
      (s.port.waiting = none → exec .wakeEnd s = .next (s.withPath s.path.resume.path s.path.resume)) ∧
      (∀ r : Request, s.port.waiting = some r → s.busReset = false → s.path.resume ≠ .opened →
        exec .wakeEnd s = .next ({ s with
          port := { s.port with waiting := none, answers := s.port.answers ++ [closedAnswer r] }
          }.withPath s.path.resume.path s.path.resume)) ∧
      (∀ r : Request, s.port.waiting = some r → s.busReset = false → s.path.resume = .opened →
        exec .wakeEnd s = exec .requestWeighedAgain (s.withPath .opened .opened)))

/-- R154, R155, R170, R171: an assertion of the bus reset line outside HOLD discards the reads and the waiting request,
records BUS-RESET, begins a wake in QUIET, abandons ENTERING-QUIET and keeps the other path states; its release changes
nothing more. In HOLD neither is recorded (R159). -/
def Obligations.BusResetLine : Prop :=
  ∀ s : State,
    exec .busResetReleased s = .next { s with busReset := false } ∧
    (s.busReset = false → s.path.path = .hold → exec .busResetAsserted s = .next { s with busReset := true }) ∧
    (s.busReset = false → s.path.path ≠ .hold →
      ∃ t : State, exec .busResetAsserted s = .next t ∧
        t.port = { s.port with reads := [], waiting := none } ∧ t.busReset = true ∧
        t.path.causes = { flags := s.path.causes.flags ||| 4, last := .busReset } ∧
        t.path.path = (match s.path.path with
          | .quiet => .waking
          | .enteringQuiet => .opened
          | p => p) ∧
        (s.path.path = .enteringQuiet → ∀ q : Byte, s.link.lock = some { seq := q, command := .quiesce } →
          t.path.lastQuiet = .abandoned ∧
          t.link = { s.link with
            lock := none
            store := some { seq := q, status := .abandoned, result := [] }
            responses := s.link.responses ++ [{ seq := q, status := .abandoned, result := [] }] }) ∧
        (s.path.path ≠ .enteringQuiet →
          t.path.resume = s.path.resume ∧ t.path.lastQuiet = s.path.lastQuiet ∧ t.link = s.link) ∧
        t.params = s.params ∧ t.alert = s.alert ∧ t.map = s.map ∧ t.subs = s.subs ∧ t.steer = s.steer ∧
        t.scrub = s.scrub ∧ t.queue = s.queue ∧ t.turns = s.turns ∧ t.mem = s.mem)

/-- R167, R46, R146, R164: the supply warning brings SETUP, FILLING, OPEN, QUIET and WAKING to DRAINING with the resume
state as it stands, raises SUPPLY, answers a request kept waiting CLOSED (or, under an asserted bus reset line, discards it:
R144), and withdraws a waiting PEEK, answered REFUSED-STATE; a PEEK already granted goes on and stays in execution.
ENTERING-QUIET is abandoned first, with OPEN as the resume state. R168: the release in DRAINING returns to the resume state
at once; in FROZEN it begins the retention exit, whose end returns to the resume state. MODEL (log 5, 7): the ends are
commands, and a waiting request is weighed at the change of path state. -/
def Obligations.SupplyWarningDrainsAndReleases : Prop :=
  (∀ (s : State) (port : HostPort), s.supplyWarning = false →
      port = (match s.port.waiting with
        | none => s.port
        | some r => { s.port with
            waiting := none
            answers := s.port.answers ++ (if s.busReset then [] else [closedAnswer r]) }) →
      ((s.path.path = .setup ∨ s.path.path = .filling ∨ s.path.path = .opened ∨ s.path.path = .quiet ∨
        s.path.path = .waking) →
        (s.link.lock = none →
          exec .supplyWarningAsserted s = .next (({ s with
            supplyWarning := true, port := port }.withPath .draining s.path.resume).withFlags 0x200)) ∧
        (∀ (q : Byte) (a : ArrayNo) (w : PhysIndex), s.link.lock = some { seq := q, command := .peek a w false } →
          exec .supplyWarningAsserted s = .next ((({ s with
            supplyWarning := true, port := port, link := { s.link with lock := none } }.withReply q .refusedState []
            ).withPath .draining s.path.resume).withFlags 0x200)) ∧
        (∀ (q : Byte) (a : ArrayNo) (w : PhysIndex), s.link.lock = some { seq := q, command := .peek a w true } →
          exec .supplyWarningAsserted s = .next (({ s with
            supplyWarning := true, port := port }.withPath .draining s.path.resume).withFlags 0x200))) ∧
      (∀ q : Byte, s.path.path = .enteringQuiet → s.link.lock = some { seq := q, command := .quiesce } →
        exec .supplyWarningAsserted s =
          .next ({ { s with
              supplyWarning := true, port := port, link := { s.link with lock := none } }.withReply q .abandoned []
            with path := { s.path with path := .draining, resume := .opened, lastQuiet := .abandoned } }.withFlags 0x200)) ∧
      (s.path.path = .hold → exec .supplyWarningAsserted s = .next { s with supplyWarning := true }) ∧
      (s.path.path = .frozen →
        exec .supplyWarningAsserted s =
          .next { s with supplyWarning := true, path := { s.path with retentionExit := false } })) ∧
  (∀ s : State, s.port.waiting = none →
      (s.supplyWarning = true → s.path.path = .draining →
        exec .supplyWarningReleased s =
          .next ({ s with supplyWarning := false }.withPath s.path.resume.path s.path.resume)) ∧
      (s.supplyWarning = true → s.path.path = .frozen →
        exec .supplyWarningReleased s =
          .next { s with supplyWarning := false, path := { s.path with retentionExit := true } }) ∧
      (s.supplyWarning = true → s.path.path = .hold →
        exec .supplyWarningReleased s = .next { s with supplyWarning := false }) ∧
      (s.path.path = .frozen → s.path.retentionExit = true →
        exec .retentionExitEnd s =
          .next ({ s with path := { s.path with retentionExit := false } }.withPath s.path.resume.path s.path.resume)))

/-- R158, R163, R168: stillness completes a quiet entry, with QUIESCE answered ENTERED and a wake at once if the alert
condition holds, and brings DRAINING to FROZEN; a part that is not still stays.
MODEL (log 6): the change is a command. -/
def Obligations.StillnessCompletes : Prop :=
  ∀ s : State,
    (∀ q : Byte, s.path.path = .enteringQuiet → still s = true → s.link.lock = some { seq := q, command := .quiesce } →
      exec .quietEntryComplete s =
        .next { ({ s with link := { s.link with lock := none } }.withReply q .entered []) with
          path := { s.path with
            path := if alertCondition s.alert then .waking else .quiet
            lastQuiet := .entered } }) ∧
    (s.path.path = .draining → still s = true →
      exec .drainToFrozen s = .next (s.withPath .frozen s.path.resume)) ∧
    (still s = false → exec .quietEntryComplete s = .next s ∧ exec .drainToFrozen s = .next s)

/-! ## The host memory port -/

/-- R144, R145, R152, R153: by the path state and the bus reset line, an arriving request is answered CLOSED, discarded
unanswered, or kept waiting with a wake begun. Eight zero bytes in even parity go with a CLOSED read. R145, R164: an
arrival in ENTERING-QUIET abandons the entry, answers QUIESCE with ABANDONED, and is weighed in OPEN. R142, R146: a
request weighed again is weighed as if it had just arrived; while one waits, no other is accepted. MODEL (log 7, 10,
25, 28): when a request is weighed again, the record of answers, one request at a time, and that a request discarded under
an asserted bus reset line begins no wake and abandons no quiet entry are the model's. -/
def Obligations.RequestsByPathState : Prop :=
  (∀ (s : State) (r : Request) (c : Instr),
      ((∃ tag w, r = .read tag w ∧ c = .readRequest tag w) ∨
        (∃ w m d p, r = .write w m d p ∧ c = .writeRequest w m d p)) →
      s.port.waiting = none →
      (s.busReset = true → exec c s = .next s) ∧
      (s.path.path = .hold → exec c s = .next s) ∧
      (s.busReset = false →
        (s.path.path = .setup ∨ s.path.path = .filling ∨ s.path.path = .draining ∨ s.path.path = .frozen) →
        exec c s = .next { s with port := { s.port with answers := s.port.answers ++ [closedAnswer r] } }) ∧
      (s.busReset = false → s.path.path = .quiet →
        exec c s = .next ({ s with port := { s.port with waiting := some r } }.withPath .waking s.path.resume)) ∧
      (s.busReset = false → s.path.path = .waking →
        exec c s = .next { s with port := { s.port with waiting := some r } })) ∧
  (∀ (s : State) (c : Instr) (q : Byte),
      ((∃ tag w, c = .readRequest tag w) ∨ (∃ w m d p, c = .writeRequest w m d p)) →
      s.port.waiting = none → s.busReset = false → s.path.path = .enteringQuiet →
      s.link.lock = some { seq := q, command := .quiesce } →
      exec c s = exec c { { s with link := { s.link with lock := none } }.withReply q .abandoned [] with
        path := { s.path with path := .opened, resume := .opened, lastQuiet := .abandoned } }) ∧
  (∀ s : State,
      (s.port.waiting = none → exec .requestWeighedAgain s = .next s) ∧
      (∀ tag w, s.port.waiting = some (.read tag w) →
        exec .requestWeighedAgain s = exec (.readRequest tag w) { s with port := { s.port with waiting := none } }) ∧
      (∀ w m d p, s.port.waiting = some (.write w m d p) →
        exec .requestWeighedAgain s = exec (.writeRequest w m d p) { s with port := { s.port with waiting := none } }) ∧
      (∀ (tag : BitVec 4) (w : BitVec 28), s.port.waiting = some (.read tag w) → s.path.path = .opened →
        s.busReset = false → s.port.reads.length < 8 → (∀ r ∈ s.port.reads, r.tag ≠ tag) →
        w.toNat < s.params.arrays.count * 33554432 → queueFind s.queue w = none →
        exec .requestWeighedAgain s = .next { s with port := { s.port with
          waiting := none
          nextPlace := s.port.nextPlace + 1
          reads := s.port.reads ++ [{ tag := tag, addr := w, home := homeOf s.params.arrays w, place := s.port.nextPlace,
                                      snapshot := none, inTurn := false }] } }) ∧
      (∀ r : Request, s.port.waiting = some r →
        (∀ tag w, exec (.readRequest tag w) s = .next s) ∧ (∀ w m d p, exec (.writeRequest w m d p) s = .next s)))

/-- R148 with R129, R130, R131, R143, R147 and R152: a read weighed in OPEN, its four tests in order.
MODEL (log 10, 14): the record of answers and the numbers of places are the model's. -/
def Obligations.ReadsAreWeighedInOrder : Prop :=
  ∀ (s : State) (tag : BitVec 4) (w : BitVec 28),
    s.path.path = .opened → s.busReset = false → s.port.waiting = none →
    (8 ≤ s.port.reads.length →
      exec (.readRequest tag w) s = .next { s with port := { s.port with waiting := some (.read tag w) } }) ∧
    (s.port.reads.length < 8 →
      ((∃ r ∈ s.port.reads, r.tag = tag) →
        exec (.readRequest tag w) s =
          .next { s with port := { s.port with answers := s.port.answers ++ [.read tag 0 0 .tagClash] } }) ∧
      ((∀ r ∈ s.port.reads, r.tag ≠ tag) →
        (s.params.arrays.count * 33554432 ≤ w.toNat →
          exec (.readRequest tag w) s =
            .next { s with port := { s.port with answers := s.port.answers ++ [.read tag 0 0 .range] } }) ∧
        (w.toNat < s.params.arrays.count * 33554432 →
          (∀ e : WriteEntry, queueFind s.queue w = some e → e.mask = 0xFF →
            exec (.readRequest tag w) s = .next { s with port := { s.port with
              nextPlace := s.port.nextPlace + 1
              answers := s.port.answers ++
                [.read tag e.data (sentParity e.data (!e.poisoned)) (if e.poisoned then .poison else .good)] } }) ∧
          (∀ snap : Option Snapshot,
            ((queueFind s.queue w = none ∧ snap = none) ∨
             (∃ e : WriteEntry, queueFind s.queue w = some e ∧ e.mask ≠ 0xFF ∧
               snap = some { mask := e.mask, data := e.data, poisoned := e.poisoned })) →
            exec (.readRequest tag w) s = .next { s with port := { s.port with
              nextPlace := s.port.nextPlace + 1
              reads := s.port.reads ++ [{ tag := tag, addr := w, home := homeOf s.params.arrays w,
                                          place := s.port.nextPlace, snapshot := snap, inTurn := false }] } }))))

/-- R149 with R126, R127, R128, R143, R150 and R153: a write weighed in OPEN, its four tests in order. A write taken
poisoned raises POISON-IN.
MODEL (log 10, 14, 15): the record of answers, the numbers of places and the zero bytes outside a mask are the model's. -/
def Obligations.WritesAreWeighedInOrder : Prop :=
  ∀ (s : State) (w : BitVec 28) (m : Byte) (d : Data) (p : Byte),
    s.path.path = .opened → s.busReset = false → s.port.waiting = none →
    (s.params.arrays.count * 33554432 ≤ w.toNat →
      exec (.writeRequest w m d p) s =
        .next { s with port := { s.port with answers := s.port.answers ++ [.write .range] } }) ∧
    (w.toNat < s.params.arrays.count * 33554432 →
      (m = 0 → exec (.writeRequest w m d p) s =
        .next { s with port := { s.port with answers := s.port.answers ++ [.write .taken] } }) ∧
      (m ≠ 0 →
        (∀ e : WriteEntry, queueFind s.queue w = some e → e.inDrain = true →
          exec (.writeRequest w m d p) s = .next { s with port := { s.port with waiting := some (.write w m d p) } }) ∧
        (queueFind s.queue w = none → 16 ≤ s.queue.length →
          exec (.writeRequest w m d p) s = .next { s with port := { s.port with waiting := some (.write w m d p) } }) ∧
        (∀ (q : List WriteEntry),
          ((∃ e : WriteEntry, queueFind s.queue w = some e ∧ e.inDrain = false ∧
              q = s.queue.map (fun x : WriteEntry => if x.addr = w then { x with
                data := mergeBytes m d x.data
                mask := x.mask ||| m
                mark := s.port.nextPlace
                poisoned := parityFails m d p || (x.poisoned && m != 0xFF) } else x)) ∨
           (queueFind s.queue w = none ∧ s.queue.length < 16 ∧
              q = s.queue ++ [{ addr := w, array := (homeOf s.params.arrays w).array, data := mergeBytes m d 0, mask := m,
                                poisoned := parityFails m d p, mark := s.port.nextPlace, inDrain := false }])) →
          exec (.writeRequest w m d p) s =
            .next ({ s with
              queue := q
              port := { s.port with
                nextPlace := s.port.nextPlace + 1
                answers := s.port.answers ++ [PortAnswer.write (if parityFails m d p then .takenPoisoned else .taken)] }
              }.withFlags (if parityFails m d p then 4 else 0)))))

/-! ## Grants of turns -/

/-- R30, R32, R33: an idle sequencer grants the first kind in the order of precedence whose claim waits and is permitted; a
busy one, or one with no such claim, grants nothing. An urgent DRAIN comes first. R33: the kinds each path state permits.
R30, R31, R44, R83, R101, R116, R120, R133, R135: when a claim of each kind waits at an installed array; none waits at
another. MODEL (log 6, 8): a grant is a command, and claims are read from their claimants. -/
def Obligations.GrantsFollowPrecedence : Prop :=
  (∀ (s : State) (a : ArrayNo),
     (∀ t : Turn, s.turn a = some t → exec (.turnGrant a) s = .next s) ∧
     ((∀ k : TurnKind, (permits s.path.path k && claimWaiting s a k) = false) → exec (.turnGrant a) s = .next s) ∧
     (s.turn a = none → ∀ (k : TurnKind) (before after : List TurnKind),
       (if s.params.highWater ≤ s.queue.length ∨ s.path.path = .draining ∨ s.path.path = .enteringQuiet
         then [.drain, .hostRead, .peek, .copy, .migrate, .fill, .scrub]
         else [.hostRead, .drain, .peek, .copy, .migrate, .fill, .scrub]) = before ++ k :: after →
       (∀ k' ∈ before, (permits s.path.path k' && claimWaiting s a k') = false) →
       permits s.path.path k = true → claimWaiting s a k = true → grantChoice s a = some k)) ∧
  (∀ (p : PathState) (k : TurnKind), permits p k = true ↔
    p = .setup ∨ p = .opened ∨ (p = .filling ∧ (k = .fill ∨ k = .drain ∨ k = .peek)) ∨
      ((p = .enteringQuiet ∨ p = .draining) ∧ (k = .hostRead ∨ k = .drain))) ∧
  (∀ (s : State) (a : ArrayNo),
    (s.params.arrays.count ≤ a.val → ∀ k : TurnKind, claimWaiting s a k = false) ∧
    (a.val < s.params.arrays.count →
      (claimWaiting s a .hostRead = true ↔ ∃ r ∈ s.port.reads, WaitsAt a r) ∧
      (claimWaiting s a .drain = true ↔ ∃ e ∈ s.queue, e.array = a ∧ Eligible s e) ∧
      (claimWaiting s a .peek = true ↔
        ∃ (q : Byte) (w : PhysIndex), s.link.lock = some { seq := q, command := .peek a w false }) ∧
      (claimWaiting s a .copy = true ↔
        ∃ (i : Fin 32) (e : SubEntry), s.subs.table.get i = some e ∧ e.array = a ∧ e.phase ≠ .active) ∧
      (claimWaiting s a .migrate = true ↔
        ∃ (k : CodedLane) (c : Nat) (o : RepairOrigin), s.steerOf a = .migrating k c o) ∧
      (claimWaiting s a .fill = true ↔ ∃ i : PhysIndex, s.scrub.fill = some { array := a, index := i }) ∧
      (claimWaiting s a .scrub = true ↔ s.scrub.claim = true ∧ s.scrub.cursor.array = a)))

/-- R32, R147: the WAITING read taken earliest at an array. R133, R135, R136: the oldest eligible entry for an array, in
creation order. R83: the lowest-numbered COPYING entry on an array. R74: the lowest-numbered FREE spare of an array and
FREE entry of the table; the one entry that serves a host row. R114: the row a SCRUB turn reads, by the entry for the row
at the cursor. -/
def Obligations.ClaimantsChooseByTheirRules : Prop :=
  (∀ (s : State) (a : ArrayNo),
    (∀ r : OutRead, ReadsOk s → (readChoice s a = some r ↔
      r ∈ s.port.reads ∧ WaitsAt a r ∧ ∀ x ∈ s.port.reads, WaitsAt a x → r.place ≤ x.place)) ∧
    (∀ e : WriteEntry, drainChoice s a = some e ↔
      ∃ before after : List WriteEntry, s.queue = before ++ e :: after ∧ e.array = a ∧ Eligible s e ∧
        ∀ x ∈ before, x.array = a → ¬Eligible s x) ∧
    (∀ (i : Fin 32) (e : SubEntry), copyChoice s a = some (i, e) ↔
      s.subs.table.get i = some e ∧ e.array = a ∧ e.phase ≠ .active ∧
        ∀ j < i, ∀ x ∈ s.subs.table.get j, x.array = a → x.phase = .active) ∧
    (∀ p : SpareNo, freeSpare s a = some p ↔ s.spare a p = .free ∧ ∀ p' < p, s.spare a p' ≠ .free) ∧
    (freeSpare s a = none ↔ ∀ p : SpareNo, s.spare a p ≠ .free) ∧
    (∀ i : Fin 32, freeEntry s = some i ↔
      s.subs.table.get i = none ∧ ∀ j < i, s.subs.table.get j ≠ none) ∧
    (freeEntry s = none ↔ ∀ i : Fin 32, s.subs.table.get i ≠ none)) ∧
  (∀ (s : State) (a : ArrayNo) (row : Nat), SubsOk s →
    (∀ (i : Fin 32) (e : SubEntry), entryFor s a row = some (i, e) ↔
      s.subs.table.get i = some e ∧ e.array = a ∧ e.hostRow = row) ∧
    (entryFor s a row = none ↔ ∀ i : Fin 32, ∀ e ∈ s.subs.table.get i, ¬(e.array = a ∧ e.hostRow = row)) ∧
    (32768 ≤ row → scrubRow s a row = row) ∧
    ((∀ i : Fin 32, ∀ e ∈ s.subs.table.get i, ¬(e.array = a ∧ e.hostRow = row)) → scrubRow s a row = row) ∧
    (∀ (i : Fin 32) (e : SubEntry), s.subs.table.get i = some e → e.array = a → e.hostRow = row →
      (∀ c : Nat, e.phase = .copying .hostRow c → scrubRow s a row = row) ∧
      (∀ (p : SpareNo) (c : Nat), e.phase = .copying (.spare p) c → scrubRow s a row = 32768 + p.val) ∧
      (e.phase = .active → scrubRow s a row = 32768 + e.target.val)))

/-- R21, R22, R34, R36, R133, R147: a granted HOST-READ serves the WAITING read taken earliest at its array, at the row
R22 chooses, with REPAIR-READ and the steering record as they stand, and marks the read IN-TURN. R38, R136: a granted
DRAIN carries the oldest eligible entry to the rows R23 names and marks it in drain. R27, R44, R83, R101, R114, R116,
R120: the other turn kinds, each with the word its claimant names at the grant. -/
def Obligations.GrantedTurnsAreFixed : Prop :=
  (∀ (s : State) (a : ArrayNo),
      (∀ (r : OutRead) (w : PhysIndex), grantChoice s a = some .hostRead → readChoice s a = some r →
        wordAt (readRow s a r.home.row r.home.column) r.home.column = some w →
        exec (.turnGrant a) s = .next ({ s with
          port := { s.port with
            reads := s.port.reads.map (fun x : OutRead => if x.place = r.place then { x with inTurn := true } else x) }
          }.setTurn a (some { work := .hostRead r.place w s.params.repairRead, steer := s.steerOf a }))) ∧
      (∀ (e : WriteEntry) (rw : PhysIndex) (ws : List PhysIndex), grantChoice s a = some .drain →
        drainChoice s a = some e →
        wordAt (readRow s a (homeOf s.params.arrays e.addr).row (homeOf s.params.arrays e.addr).column)
          (homeOf s.params.arrays e.addr).column = some rw →
        wordsAt (homeOf s.params.arrays e.addr).column
          (writeRows s a (homeOf s.params.arrays e.addr).row (homeOf s.params.arrays e.addr).column) = some ws →
        exec (.turnGrant a) s = .next ({ s with
          queue := s.queue.map (fun x : WriteEntry => if x.addr = e.addr then { x with inDrain := true } else x)
          }.setTurn a (some { work := .drain e.addr e.data e.mask e.poisoned rw ws, steer := s.steerOf a })))) ∧
  (∀ (s : State) (a : ArrayNo),
      (∀ (q : Byte) (w : PhysIndex), grantChoice s a = some .peek →
        s.link.lock = some { seq := q, command := .peek a w false } →
        exec (.turnGrant a) s = .next ({ s with
          link := { s.link with lock := some { seq := q, command := .peek a w true } }
          }.setTurn a (some { work := .peek w, steer := s.steerOf a }))) ∧
      (∀ (i : Fin 32) (e : SubEntry) (src : CopySource) (c : Nat) (col : Column) (sw tw : PhysIndex),
        grantChoice s a = some .copy → copyChoice s a = some (i, e) → e.phase = .copying src c → col.val = c →
        sw.val = sourceRow e src * 1024 + c → tw.val = spareRow e.target * 1024 + c →
        exec (.turnGrant a) s = .next (s.setTurn a (some {
          work := .copy { entry := i, source := src, target := e.target, column := col, void := false } sw tw
          steer := s.steerOf a }))) ∧
      (∀ (k : CodedLane) (o : RepairOrigin) (i : PhysIndex), grantChoice s a = some .migrate →
        s.steerOf a = .migrating k i.val o →
        exec (.turnGrant a) s = .next (s.setTurn a (some { work := .migrate k i false, steer := s.steerOf a }))) ∧
      (∀ i : PhysIndex, grantChoice s a = some .fill → s.scrub.fill = some { array := a, index := i } →
        exec (.turnGrant a) s = .next (s.setTurn a (some { work := .fill i false, steer := s.steerOf a }))) ∧
      (∀ w : PhysIndex, grantChoice s a = some .scrub →
        wordAt (scrubRow s a s.scrub.cursor.row) s.scrub.cursor.column = some w →
        exec (.turnGrant a) s = .next ({ s with scrub := { s.scrub with claim := false } }.setTurn a
          (some { work := .scrub w false, steer := s.steerOf a }))))

/-! ## Completions of turns -/

/-- R35, R36, R43, R132, R151: a completed HOST-READ answers the read it was granted for, with the merged data and the
status of R132, or nobody if that read is gone; it writes back the corrected word only for FIXED with REPAIR-READ at 1; it
delivers its occurrence.
MODEL (log 3, 9): the lanes `flips` have changed in the array when the turn reads, and it reads and writes at its completion. -/
def Obligations.HostReadCompletes : Prop :=
  ∀ (s : State) (a : ArrayNo) (flips : Stored) (place : Nat) (i : PhysIndex) (repair : Bool) (r : SteerRecord),
    s.turn a = some { work := .hostRead place i repair, steer := r } →
    ∃ t : State, exec (.hostReadComplete a flips) s = .next t ∧
      SameControl (report a i .hostRead (decodeNow s a i r flips) s) t ∧ SameSetting s t ∧ OnlyTurnEnded a s t ∧
      t.queue = s.queue ∧ t.scrub = s.scrub ∧ t.link = s.link ∧
      t.word a i = (match (decodeNow s a i r flips).cls with
        | .fixed n => if repair then withSpareLane r (invertLane (decodeNow s a i r flips).lanes n)
                      else s.word a i ^^^ flips
        | _ => s.word a i ^^^ flips) ∧
      WordsKeptBut a [i] s t ∧
      (∀ x : OutRead, s.port.reads.find? (fun y => y.place == place) = some x →
        ∃ (data : Data) (st : ReadStatus),
          t.port = { s.port with
            reads := s.port.reads.filter (fun y => y.place != place)
            answers := s.port.answers ++ [.read x.tag data (sentParity data st.goodData) st] } ∧
          (x.snapshot = none → data = (decodeNow s a i r flips).data ∧ st = (decodeNow s a i r flips).cls.status) ∧
          (∀ p : Snapshot, x.snapshot = some p → data = mergeBytes p.mask p.data (decodeNow s a i r flips).data ∧
            st = if p.poisoned then .poison else (decodeNow s a i r flips).cls.status)) ∧
      (s.port.reads.find? (fun y => y.place == place) = none → t.port = s.port)

/-- R23, R35, R38, R137: a completed DRAIN writes one stored word to every row named at its grant, clean or poisoned as R38's
table says, reports what a partial-mask read found, and removes its entry.
MODEL (log 3, 9): the lanes `flips` have changed in the array when the turn reads, and it reads and writes at its completion. -/
def Obligations.DrainCompletes : Prop :=
  ∀ (s : State) (a : ArrayNo) (flips : Stored) (w : BitVec 28) (data : Data) (mask : Byte) (poisoned : Bool)
    (rw : PhysIndex) (ws : List PhysIndex) (r : SteerRecord),
    s.turn a = some { work := .drain w data mask poisoned rw ws, steer := r } →
    ∃ t : State, exec (.drainComplete a flips) s = .next t ∧ SameSetting s t ∧ OnlyTurnEnded a s t ∧
      t.queue = s.queue.filter (fun x => x.addr != w) ∧ t.port = s.port ∧ t.scrub = s.scrub ∧ t.link = s.link ∧
      (mask = 0xFF → SameControl s t ∧ (∀ i ∈ ws, t.word a i = storedWord r data poisoned) ∧ WordsKeptBut a ws s t) ∧
      (mask ≠ 0xFF →
        SameControl (report a rw .drain (decodeNow s a rw r flips) s) t ∧
        (∀ i ∈ ws, t.word a i = storedWord r (mergeBytes mask data (decodeNow s a rw r flips).data)
          (poisoned || (match (decodeNow s a rw r flips).cls with
            | .good => false
            | .fixed _ => false
            | _ => true))) ∧
        (rw ∉ ws → t.word a rw = s.word a rw ^^^ flips) ∧ WordsKeptBut a (rw :: ws) s t)

/-- R39, R83, R84, R85: a completed COPY writes the target, clean for GOOD and FIXED and poisoned for the rest, and reports
what it found; then, whatever the class, a copy in hand that stands advances its entry's cursor by one, and at column 1,023
completes it; a void one changes nothing more. What the report sets off does not touch the copy that read the source (R78,
R81). The completion of a copy makes the entry ACTIVE on its target, retires a source spare and no other, purges the source
row and nothing else from the Fault Map, and raises SPARE-DONE.
MODEL (log 3, 9): the lanes `flips` have changed in the array when the turn reads, and it reads and writes at its completion. -/
def Obligations.CopyTurnCompletes : Prop :=
  (∀ (s : State) (a : ArrayNo) (flips : Stored) (h : CopyHand) (sw tw : PhysIndex) (r : SteerRecord) (u : State),
    s.turn a = some { work := .copy h sw tw, steer := r } → u = report a sw .copy (decodeNow s a sw r flips) s →
    ∃ (t : State) (void : Bool), exec (.copyTurnComplete a flips) s = .next t ∧ SameSetting s t ∧ OnlyTurnEnded a s t ∧
      t.queue = s.queue ∧ t.port = s.port ∧ t.scrub = s.scrub ∧ t.link = s.link ∧
      t.word a tw = storedWord r (decodeNow s a sw r flips).data (match (decodeNow s a sw r flips).cls with
        | .good => false
        | .fixed _ => false
        | _ => true) ∧
      (sw ≠ tw → t.word a sw = s.word a sw ^^^ flips) ∧ WordsKeptBut a [sw, tw] s t ∧
      u.turn a = some { work := .copy { h with void := void } sw tw, steer := r } ∧
      (h.void = true → void = true) ∧
      ((decodeNow s a sw r flips).error = none → void = h.void ∧ u = s) ∧
      (∀ (e : SubEntry) (c : Nat), SubsOk s → s.subs.table.get h.entry = some e → e.array = a →
        e.phase = .copying h.source c → sw.val / 1024 = sourceRow e h.source → void = h.void ∧ u.subs = s.subs) ∧
      (void = true → SameControl u t) ∧
      (void = false →
        ∀ (e : SubEntry) (src : CopySource) (c : Nat), u.subs.table.get h.entry = some e → e.phase = .copying src c →
          (h.column.val < 1023 →
            SameControl (setEntry h.entry (some { e with phase := .copying src (h.column.val + 1) }) u) t) ∧
          (h.column.val = 1023 → SameControl (completeCopy h.entry e src u) t))) ∧
  (∀ (s : State) (i : Fin 32) (e : SubEntry) (src : CopySource),
     (completeCopy i e src s).subs.table.get i = some { e with phase := .active } ∧
     (∀ j : Fin 32, j ≠ i → (completeCopy i e src s).subs.table.get j = s.subs.table.get j) ∧
     (∀ (a : ArrayNo) (t : SpareNo), (completeCopy i e src s).spare a t =
       if src = .spare t ∧ a = e.array then .retired else s.spare a t) ∧
     (∀ j : Fin 64, (completeCopy i e src s).map.slot j = (s.map.slot j).filter (fun x =>
       !(decide (x.array = e.array) && decide (x.row = sourceRow e src)))) ∧
     (completeCopy i e src s).alert.flags = s.alert.flags ||| 0x20 ∧
     (completeCopy i e src s).map.recency.Sublist s.map.recency)

/-- R40, R101, R102, R103: a completed MIGRATE rewrites its word with lane k's value on lane 72, poisoned for POISON, BLANK
and FAULT, and reports what it found; then, whatever the class, one that stands advances the cursor by one, and after index
33,570,815 the record is STEERED, the lane's entries are purged and SPARE-DONE is raised; a void one changes nothing more.
What the report sets off does not touch a MIGRATING record whose cursor the word is not below (R102).
MODEL (log 3, 9): the lanes `flips` have changed in the array when the turn reads, and it reads and writes at its completion. -/
def Obligations.MigrateTurnCompletes : Prop :=
  ∀ (s : State) (a : ArrayNo) (flips : Stored) (k : CodedLane) (i : PhysIndex) (v : Bool) (r : SteerRecord) (u : State),
    s.turn a = some { work := .migrate k i v, steer := r } → u = report a i .migrate (decodeNow s a i r flips) s →
    ∃ (t : State) (void : Bool), exec (.migrateTurnComplete a flips) s = .next t ∧ SameSetting s t ∧ OnlyTurnEnded a s t ∧
      t.queue = s.queue ∧ t.port = s.port ∧ t.scrub = s.scrub ∧ t.link = s.link ∧
      t.word a i = storedWord r (decodeNow s a i r flips).data (match (decodeNow s a i r flips).cls with
        | .good => false
        | .fixed _ => false
        | _ => true) ∧
      WordsKeptBut a [i] s t ∧
      u.turn a = some { work := .migrate k i void, steer := r } ∧ (v = true → void = true) ∧
      ((decodeNow s a i r flips).error = none → void = v ∧ u = s) ∧
      (∀ (k0 k1 : CodedLane) (c0 c1 : Nat) (o0 o1 : RepairOrigin), r = .migrating k0 c0 o0 → c0 ≤ i.val →
        s.steerOf a = .migrating k1 c1 o1 → void = v ∧ u.steer = s.steer) ∧
      (void = true → SameControl u t) ∧
      (void = false →
        ∀ (k1 : CodedLane) (c : Nat) (o : RepairOrigin), u.steerOf a = .migrating k1 c o →
          (i.val < 33570815 → SameControl (setSteer a (.migrating k1 (i.val + 1) o) u) t) ∧
          (i.val = 33570815 →
            SameControl { (setSteer a (.steered k1 o) u).raised 0x20 with map := t.map } t ∧
            t.map.recency.Sublist u.map.recency ∧
            ∀ j : Fin 64, t.map.slot j = (u.map.slot j).filter (fun x =>
              !(decide (x.array = a) && decide (x.lane = some k1.castSucc)))))

/-- R41, R121, R161: a completed FILL writes the fill pattern, lane 72 by the record at the grant; a fill in hand that stands
moves the cursor to the next index, or to index 0 of the next installed array, or completes the fill: no cursor, FILL-DONE,
and FILLING returns to SETUP; a void one changes nothing more.
MODEL (log 9): the turn writes at its completion. -/
def Obligations.FillTurnCompletes : Prop :=
  ∀ (s : State) (a : ArrayNo) (i : PhysIndex) (v : Bool) (r : SteerRecord),
    s.turn a = some { work := .fill i v, steer := r } →
    ∃ t : State, exec (.fillTurnComplete a) s = .next t ∧ SameSetting s t ∧ OnlyTurnEnded a s t ∧
      t.queue = s.queue ∧ t.port = s.port ∧ t.link = s.link ∧ t.map = s.map ∧ t.subs = s.subs ∧ t.steer = s.steer ∧
      t.word a i = withSpareLane r (0x81#8 ++ 0#64) ∧ WordsKeptBut a [i] s t ∧
      (v = true → t.scrub = s.scrub ∧ t.alert = s.alert ∧ t.path = s.path) ∧
      (v = false →
        (∀ j : PhysIndex, j.val = i.val + 1 →
          t.scrub = { s.scrub with fill := some { array := a, index := j } } ∧ t.alert = s.alert ∧ t.path = s.path) ∧
        (∀ b : ArrayNo, i.val = 33570815 → b.val = a.val + 1 → installed s b = true →
          t.scrub = { s.scrub with fill := some { array := b, index := 0 } } ∧ t.alert = s.alert ∧ t.path = s.path) ∧
        (i.val = 33570815 → s.params.arrays.count ≤ a.val + 1 →
          t.scrub = { s.scrub with fill := none } ∧ t.alert.flags = s.alert.flags ||| 0x100 ∧
          (s.path.path = .filling → t.path = { s.path with path := .setup, resume := .setup }) ∧
          (s.path.path = .draining ∨ s.path.path = .frozen → t.path = { s.path with resume := .setup })))

/-- R42, R112, R113, R117, R118: a completed SCRUB writes back the corrected word for FIXED alone and reports what it found;
its result moves the cursor on within the row, or to the next visited row in walk order, or completes the pass where the walk
ends, unless the array has left the installed set, when nothing moves.
MODEL (log 3, 9): the lanes `flips` have changed in the array when the turn reads, and it reads and writes at its completion. -/
def Obligations.ScrubTurnCompletes : Prop :=
  ∀ (s : State) (a : ArrayNo) (flips : Stored) (w : PhysIndex) (left : Bool) (r : SteerRecord),
    s.turn a = some { work := .scrub w left, steer := r } →
    ∃ t : State, exec (.scrubTurnComplete a flips) s = .next t ∧ SameSetting s t ∧ OnlyTurnEnded a s t ∧
      t.queue = s.queue ∧ t.port = s.port ∧ t.link = s.link ∧
      t.word a w = (match (decodeNow s a w r flips).cls with
        | .fixed n => withSpareLane r (invertLane (decodeNow s a w r flips).lanes n)
        | _ => s.word a w ^^^ flips) ∧
      WordsKeptBut a [w] s t ∧
      t.subs = (report a w .scrub (decodeNow s a w r flips) s).subs ∧
      t.steer = (report a w .scrub (decodeNow s a w r flips) s).steer ∧
      (left = true → SameControl (report a w .scrub (decodeNow s a w r flips) s) t ∧ t.scrub = s.scrub) ∧
      (left = false → s.scrub.cursor.column < 1023 →
        SameControl (report a w .scrub (decodeNow s a w r flips) s) t ∧
        t.scrub = { s.scrub with cursor := { s.scrub.cursor with column := s.scrub.cursor.column + 1 } }) ∧
      (∀ (b : ArrayNo) (row : Nat), left = false → 1023 ≤ s.scrub.cursor.column →
        seekRow (report a w .scrub (decodeNow s a w r flips) s) walkFuel s.scrub.cursor.array (s.scrub.cursor.row + 1) =
          some (b, row) →
        SameControl (report a w .scrub (decodeNow s a w r flips) s) t ∧
        t.scrub = { s.scrub with cursor := { array := b, row := row, column := 0 } }) ∧
      (left = false → 1023 ≤ s.scrub.cursor.column →
        seekRow (report a w .scrub (decodeNow s a w r flips) s) walkFuel s.scrub.cursor.array (s.scrub.cursor.row + 1) =
          none →
        SameControl (advanceCursor (report a w .scrub (decodeNow s a w r flips) s)) t ∧
        t.scrub = (advanceCursor (report a w .scrub (decodeNow s a w r flips) s)).scrub)

/-- R113, R118, R65: when the walk ends, the pass completes: aging by its number, the number one higher (0 after 65,535),
PASS raised, and the cursor at the first position when row 0 of array 0 is visited. R116: an expiry places a SCRUB
claim, or adds nothing to one that waits, and restarts the timer; none expires while SCRUB-INTERVAL is 0. MODEL (log
5): the expiry is a command. -/
def Obligations.PassesAndTheInterval : Prop :=
  (∀ s : State, 1023 ≤ s.scrub.cursor.column →
      seekRow s walkFuel s.scrub.cursor.array (s.scrub.cursor.row + 1) = none →
      (advanceCursor s).scrub.pass.toNat = (s.scrub.pass.toNat + 1) % 65536 ∧
      (advanceCursor s).alert.flags = s.alert.flags ||| 0x80 ∧
      (∀ (b : ArrayNo) (row : Nat), seekRow s walkFuel 0 0 = some (b, row) →
        (advanceCursor s).scrub.cursor = { array := b, row := row, column := 0 }) ∧
      (rowVisited s 0 0 = true → (advanceCursor s).scrub.cursor = { array := 0, row := 0, column := 0 }) ∧
      (advanceCursor s).map.recency.Sublist s.map.recency ∧
      (∀ j : Fin 64, (advanceCursor s).map.slot j = (s.map.slot j).bind (fun e =>
        if e.state = .watch ∧ e.lastPass ≠ s.scrub.pass then
          (if e.occurrences / 2 = 0 then none else some { e with occurrences := e.occurrences / 2 })
        else some e)) ∧
      (advanceCursor s).subs = s.subs ∧ (advanceCursor s).steer = s.steer ∧ (advanceCursor s).mem = s.mem) ∧
  (∀ s : State,
      (s.params.scrubInterval ≠ 0 → exec .scrubIntervalExpiry s =
        .next { s with scrub := { s.scrub with claim := true, timer := s.params.scrubInterval } }) ∧
      (s.params.scrubInterval = 0 → exec .scrubIntervalExpiry s = .next s))

/-- R112, R113: a host row is visited unless an ACTIVE entry has it as its host row, a spare when it is the target of an
ACTIVE entry; from a position of an installed array the cursor comes to rest at the first visited row in walk order, over
the installed arrays in turn, and the walk ends when there is none. -/
def Obligations.ScrubVisitsRowsInOrder : Prop :=
  (∀ (s : State) (a : ArrayNo),
    (∀ row : Nat, row < 32768 → (rowVisited s a row = true ↔
      ∀ i : Fin 32, ∀ e ∈ s.subs.table.get i, e.array = a → e.hostRow = row → e.phase ≠ .active)) ∧
    (∀ p : SpareNo, rowVisited s a (32768 + p.val) = true ↔
      ∃ i : Fin 32, ∃ e ∈ s.subs.table.get i, e.array = a ∧ e.target = p ∧ e.phase = .active)) ∧
  (∀ (s : State) (a : ArrayNo) (row : Nat), a.val < s.params.arrays.count → row ≤ 32784 →
    (∀ (b : ArrayNo) (r : Nat), seekRow s walkFuel a row = some (b, r) ↔
      b.val < s.params.arrays.count ∧ r < 32784 ∧ NotBefore a row b r ∧ rowVisited s b r = true ∧
      ∀ (c : ArrayNo) (r' : Nat), c.val < s.params.arrays.count → r' < 32784 → NotBefore a row c r' →
        rowVisited s c r' = true → NotBefore b r c r') ∧
    (seekRow s walkFuel a row = none ↔
      ∀ (c : ArrayNo) (r' : Nat), c.val < s.params.arrays.count → r' < 32784 → NotBefore a row c r' →
        rowVisited s c r' = false))

/-! ## Occurrences -/

/-- R52 to R58: an occurrence raises FIXED or FAULT, and afterwards the entry with its key stands most recent, with the count,
column, pass, origin and class of R53 or R54 and, unless a condemnation has marked it, the state of R54 or R58: in the slot
it had, else in the lowest-numbered empty slot, else in that of the WATCH entry least recent in the recency order; or, in a
map full of entries that are not WATCH, MAP-FULL is raised, no entry has the key and the recency order stays. Every other
entry keeps its slot and its fields but for a condemnation's mark. R26, R43: what a turn reports of the word it read. -/
def Obligations.OccurrencesAreRecorded : Prop :=
  (∀ (s : State) (o : Occurrence), MapOk s.map →
    ((deliver o s).alert.flags.getLsbD o.error.flag.bit = true) ∧
    ((∃ (i : Fin 64) (e : MapEntry), (deliver o s).map.slot i = some e ∧ o.hasKey e = true ∧
        (deliver o s).map.recency.getLast? = some i ∧
        (deliver o s).map.recency = s.map.recency.erase i ++ [i] ∧
        (deliver o s).alert.flags.getLsbD 3 = s.alert.flags.getLsbD 3 ∧
        (∀ j : Fin 64, j ≠ i → KeptOrCondemned o (s.map.slot j) ((deliver o s).map.slot j)) ∧
        e.lastColumn = o.column ∧ e.lastPass = s.scrub.pass ∧ e.lastOrigin = o.origin ∧
        e.lastClass = o.error.uncorrectable ∧
        (∀ (j : Fin 64) (old : MapEntry), s.map.slot j = some old → o.hasKey old = true →
          j = i ∧ e.occurrences = (if old.occurrences = 15 then 15 else old.occurrences + 1) ∧
          e.firstPass = old.firstPass ∧
          (e.state ≠ .condemned → e.state =
            if old.state = .watch ∧ s.params.suspectAt ≤ e.occurrences then .suspect else old.state)) ∧
        ((∀ (j : Fin 64) (old : MapEntry), s.map.slot j = some old → o.hasKey old = false) →
          e.occurrences = 1 ∧ e.firstPass = s.scrub.pass ∧
          (e.state ≠ .condemned → e.state =
            match o.error with
            | .fixed _ => if s.params.suspectAt ≤ 1 then .suspect else .watch
            | .blank => .suspect
            | .fault => .suspect) ∧
          ((∃ j : Fin 64, s.map.slot j = none) → s.map.slot i = none) ∧
          (∀ j : Fin 64, s.map.slot j = none → i ≤ j) ∧
          (∀ old : MapEntry, s.map.slot i = some old → old.state = .watch ∧
            ∃ before after : List (Fin 64), s.map.recency = before ++ i :: after ∧
              ∀ j ∈ before, ∀ x ∈ s.map.slot j, x.state ≠ .watch))) ∨
      ((∀ j : Fin 64, ∃ e : MapEntry, s.map.slot j = some e ∧ e.state ≠ .watch ∧ o.hasKey e = false) ∧
        (deliver o s).alert.flags.getLsbD 3 = true ∧ (deliver o s).map.recency = s.map.recency ∧
        (o.error ≠ .fault → (deliver o s).map = s.map) ∧
        ∀ j : Fin 64, KeptOrCondemned o (s.map.slot j) ((deliver o s).map.slot j)))) ∧
  (∀ (s : State) (a : ArrayNo) (i : PhysIndex) (g : Origin) (d : Decoded),
    ((d.cls = .good ∨ d.cls = .poison) → report a i g d s = s) ∧
    (∀ e : ErrorClass,
      ((∃ n : CodedLane, d.cls = .fixed n ∧ e = .fixed (if d.choice = some n then 72 else n.castSucc)) ∨
        (d.cls = .blank ∧ e = .blank) ∨ (d.cls = .fault ∧ e = .fault)) →
      report a i g d s =
        deliver { array := a, row := i.val / 1024, column := i.val % 1024, error := e, origin := g } s))

/-- R60, R63, R77: a FAULT occurrence marks every entry of its row CONDEMNED and raises CONDEMNED; a host row that no
entry serves gets, under AUTO-SUB, the lowest-numbered FREE entry COPYING from the host row at cursor 0 to the lowest-
numbered FREE spare, with origin AUTO, or NO-SPARE is raised. R58, R61, R62: the same when a FIXED occurrence makes its
entry SUSPECT, by update or at creation, and its row then has ROW-LANES SUSPECT lanes or more; its lane is condemned if the
lane then has LANE-ROWS SUSPECT rows or more, both counts taken before either marks an entry. With neither, as for every
BLANK occurrence (R60), nothing is condemned. -/
def Obligations.CondemnationsByTheirTriggers : Prop :=
  (∀ (s : State) (o : Occurrence), (o.error = .fault ∨ MapOk s.map) → CondemnsRow s o →
      (∀ (i : Fin 64) (e : MapEntry), (deliver o s).map.slot i = some e → e.array = o.array → e.row = o.row →
        e.state = .condemned) ∧
      (deliver o s).alert.flags.getLsbD 4 = true ∧
      (o.row < 32768 → entryFor s o.array o.row = none → s.params.autoSub = true →
        (∀ (i : Fin 32) (p : SpareNo), freeEntry s = some i → freeSpare s o.array = some p →
          (deliver o s).subs.table.get i = some { array := o.array, hostRow := o.row, phase := .copying .hostRow 0,
                                                  target := p, origin := .auto } ∧
          (deliver o s).spare o.array p = .inUse) ∧
        (freeEntry s = none ∨ freeSpare s o.array = none →
          (deliver o s).subs = s.subs ∧ (deliver o s).alert.flags.getLsbD 6 = true))) ∧
  (∀ (s : State) (o : Occurrence) (l : PhysLane), MapOk s.map → CondemnsLane s o l →
      (deliver o s).alert.flags.getLsbD 4 = true ∧
      (∀ (j : Fin 64) (e : MapEntry), (deliver o s).map.slot j = some e → e.array = o.array → e.lane = some l →
        e.state = .condemned) ∧
      (∀ k : CodedLane, l = k.castSucc → s.steerOf o.array = .normal → s.params.autoSteer = true →
        (deliver o s).steerOf o.array = .migrating k 0 .auto)) ∧
  (∀ (s : State) (o : Occurrence), MapOk s.map → ¬CondemnsRow s o → (∀ l : PhysLane, ¬CondemnsLane s o l) →
      (deliver o s).subs = s.subs ∧ (deliver o s).steer = s.steer ∧ (deliver o s).turns = s.turns ∧
      (∀ n : Nat, n ≠ o.error.flag.bit → n ≠ 3 →
        (deliver o s).alert.flags.getLsbD n = s.alert.flags.getLsbD n) ∧
      (∀ (j : Fin 64) (e : MapEntry), (deliver o s).map.slot j = some e → e.state = .condemned →
        ∃ x ∈ s.map.slot j, x.state = .condemned)) ∧
  (∀ (s : State) (o : Occurrence), o.error = .blank → ¬CondemnsRow s o ∧ ∀ l : PhysLane, ¬CondemnsLane s o l)

/-- R76 to R82, for a row that an occurrence condemns (an automatic condemnation). R77, R82: of a host row that no entry
serves, a copy under AUTO-SUB, with NO-SPARE where an entry or a spare is lacking, and nothing with AUTO-SUB at 0. R78: of a
host row that an entry serves, nothing. R79: of the target of an ACTIVE entry, the re-target under AUTO-SUB, with NO-SPARE
where no spare is FREE. R80: of the target of a COPYING entry, whatever AUTO-SUB, the spare RETIRED and the copy restarted,
or abandoned with NO-SPARE, its copy in hand void. R81: of any other spare, nothing. -/
def Obligations.RowCondemnationsByTheTable : Prop :=
  ∀ (s : State) (o : Occurrence) (t : State) (lane : Prop), MapOk s.map → SubsOk s → CondemnsRow s o →
    t = deliver o s → (lane ↔ ∃ l : PhysLane, CondemnsLane s o l) →
    (∀ (i : Fin 32) (e : SubEntry), s.subs.table.get i = some e → e.array = o.array → e.hostRow = o.row →
      t.subs = s.subs ∧ (¬lane → NoSpareAndTurnsKept s t)) ∧
    (o.row < 32768 → entryFor s o.array o.row = none →
      (s.params.autoSub = false → t.subs = s.subs ∧ (¬lane → NoSpareAndTurnsKept s t)) ∧
      (s.params.autoSub = true →
        (∀ (i : Fin 32) (p : SpareNo), freeEntry s = some i → freeSpare s o.array = some p →
          (∀ j : Fin 32, t.subs.table.get j = if j = i
            then some { array := o.array, hostRow := o.row, phase := .copying .hostRow 0, target := p, origin := .auto }
            else s.subs.table.get j) ∧
          (∀ (b : ArrayNo) (x : SpareNo), t.spare b x = if b = o.array ∧ x = p then .inUse else s.spare b x) ∧
          (¬lane → NoSpareAndTurnsKept s t)) ∧
        (freeEntry s = none ∨ freeSpare s o.array = none →
          t.subs = s.subs ∧ t.alert.flags.getLsbD 6 = true))) ∧
    (∀ p : SpareNo, o.row = 32768 + p.val →
      ((∀ i : Fin 32, ∀ e ∈ s.subs.table.get i, ¬(e.array = o.array ∧ e.target = p)) →
        t.subs = s.subs ∧ (¬lane → NoSpareAndTurnsKept s t)) ∧
      (∀ (i : Fin 32) (e : SubEntry), s.subs.table.get i = some e → e.array = o.array → e.target = p →
        (e.phase = .active →
          (s.params.autoSub = false → t.subs = s.subs ∧ (¬lane → NoSpareAndTurnsKept s t)) ∧
          (s.params.autoSub = true →
            (∀ p' : SpareNo, freeSpare s o.array = some p' →
              (∀ j : Fin 32, t.subs.table.get j = if j = i
                then some { e with phase := .copying (.spare p) 0, target := p', origin := .auto }
                else s.subs.table.get j) ∧
              (∀ (b : ArrayNo) (x : SpareNo), t.spare b x = if b = o.array ∧ x = p' then .inUse else s.spare b x) ∧
              (¬lane → NoSpareAndTurnsKept s t)) ∧
            (freeSpare s o.array = none → t.subs = s.subs ∧ t.alert.flags.getLsbD 6 = true))) ∧
        (∀ (src : CopySource) (c : Nat), e.phase = .copying src c →
          (∀ (h : CopyHand) (sw tw : PhysIndex) (r : SteerRecord),
            s.turn o.array = some { work := .copy h sw tw, steer := r } → h.entry = i →
            t.turn o.array = some { work := .copy { h with void := true } sw tw, steer := r }) ∧
          (∀ p' : SpareNo, freeSpare s o.array = some p' →
            (∀ j : Fin 32, t.subs.table.get j = if j = i
              then some { e with phase := .copying src 0, target := p' } else s.subs.table.get j) ∧
            (∀ (b : ArrayNo) (x : SpareNo), t.spare b x =
              if b = o.array ∧ x = p' then .inUse else if b = o.array ∧ x = p then .retired else s.spare b x) ∧
            (¬lane → t.alert.flags.getLsbD 6 = s.alert.flags.getLsbD 6)) ∧
          (freeSpare s o.array = none →
            (∀ j : Fin 32, t.subs.table.get j = if j = i
              then (match src with
                | .hostRow => none
                | .spare p0 => some { e with phase := .active, target := p0 })
              else s.subs.table.get j) ∧
            (∀ (b : ArrayNo) (x : SpareNo), t.spare b x = if b = o.array ∧ x = p then .retired else s.spare b x) ∧
            t.alert.flags.getLsbD 6 = true))))

/-- R96 to R100, for a lane that an occurrence condemns (an automatic condemnation). R97, R100: on a NORMAL record, a
migration under AUTO-STEER and nothing at 0. R98: nothing when the record names the lane; NO-SPARE under AUTO-STEER when it
names another. R99: of lane 72, whatever AUTO-STEER, a migration is cancelled with its migration in hand void and NO-SPARE
raised, a STEERED record stays with NO-SPARE raised, a NORMAL record ignores it. -/
def Obligations.LaneCondemnationsByTheRecord : Prop :=
  ∀ (s : State) (o : Occurrence) (l : PhysLane) (t : State), MapOk s.map → CondemnsLane s o l → t = deliver o s →
    (∀ b : ArrayNo, b ≠ o.array → t.steerOf b = s.steerOf b) ∧
    (∀ k : CodedLane, l = k.castSucc →
      (s.steerOf o.array = .normal →
        t.steerOf o.array = (if s.params.autoSteer then .migrating k 0 .auto else .normal) ∧
        (¬CondemnsRow s o → NoSpareAndTurnsKept s t)) ∧
      (namedLane (s.steerOf o.array) = some k →
        t.steerOf o.array = s.steerOf o.array ∧ (¬CondemnsRow s o → NoSpareAndTurnsKept s t)) ∧
      (∀ j : CodedLane, namedLane (s.steerOf o.array) = some j → j ≠ k →
        t.steerOf o.array = s.steerOf o.array ∧
        (s.params.autoSteer = true → t.alert.flags.getLsbD 6 = true) ∧
        (s.params.autoSteer = false → ¬CondemnsRow s o → NoSpareAndTurnsKept s t))) ∧
    (l = 72 →
      (s.steerOf o.array = .normal → t.steerOf o.array = .normal ∧ (¬CondemnsRow s o → NoSpareAndTurnsKept s t)) ∧
      (∀ (k : CodedLane) (g : RepairOrigin), s.steerOf o.array = .steered k g →
        t.steerOf o.array = .steered k g ∧ t.alert.flags.getLsbD 6 = true) ∧
      (∀ (k : CodedLane) (c : Nat) (g : RepairOrigin), s.steerOf o.array = .migrating k c g →
        t.steerOf o.array = .normal ∧ t.alert.flags.getLsbD 6 = true ∧
        ∀ (k' : CodedLane) (i : PhysIndex) (v : Bool) (r : SteerRecord),
          s.turn o.array = some { work := .migrate k' i v, steer := r } →
          t.turn o.array = some { work := .migrate k' i true, steer := r }))

/-! ## The link: bytes and frames -/

/-- R179, R180, R189, and MODEL (log 11, 12): the bytes of a whole frame, sent while the receiver awaits a marker outside
HOLD, do what the row of that frame does: a good frame of a command, a good frame of an unknown code, a frame whose check
differs. -/
def Obligations.BytesOfAFrameDoWhatItsRowDoes : Prop :=
  ∀ (s : State) (q : Byte) (args : List Byte), s.path.path ≠ .hold → args.length ≤ 12 →
    s.link.receiver = .awaitMarker →
    (∀ c : LinkCommand, afterBytes (commandFrame q c.code args) s = exec (c.row q args) s) ∧
    (∀ code : Byte, LinkCommand.ofCode code = none →
      afterBytes (commandFrame q code args) s = exec (.unknown q code args) s) ∧
    (∀ code check : Byte, check ≠ crc (frameBody q code args) →
      afterBytes (commandMarker :: (frameBody q code args ++ [check])) s = exec (.linkReject q code args check) s)

/-- R179, R181, R182, R188: the receiver's three states, byte by byte and at the end of a gap; in HOLD nothing is taken
in. R183: a complete frame whose check differs from the one R180 forms is answered LINK-REJECT with its sequence,
raises LINK, and leaves the lock, the store and all else as they were. R184: a response sent leaves the line to the
next. MODEL (log 5, 11, 12): the gaps are commands, and a row is the arrival of a whole frame. -/
def Obligations.ReceiverTakesBytes : Prop :=
  (∀ (s : State) (b : Byte),
      (s.path.path = .hold → exec (.byteArrives b) s = .next s) ∧
      (s.path.path ≠ .hold →
        (s.link.receiver = .awaitMarker →
          exec (.byteArrives 0xA5) s = .next { s with link := { s.link with receiver := .inFrame [] } } ∧
          (b ≠ 0xA5 → exec (.byteArrives b) s = .next s)) ∧
        (s.link.receiver = .inFrame [] →
          exec (.byteArrives b) s = .next { s with link := { s.link with
            receiver := if 2 ≤ b.toNat ∧ b.toNat ≤ 14 then .inFrame [b] else .discarding } }) ∧
        (∀ (l : Byte) (g : List Byte), s.link.receiver = .inFrame (l :: g) → g.length < l.toNat →
          exec (.byteArrives b) s = .next { s with link := { s.link with receiver := .inFrame (l :: g ++ [b]) } }) ∧
        (s.link.receiver = .discarding → exec (.byteArrives b) s = .next s)) ∧
      (s.path.path ≠ .hold →
        ((∃ g, s.link.receiver = .inFrame g) →
          exec .linkGapTimeout s =
            .next ({ s with link := { s.link with receiver := .awaitMarker } }.raised 0x400)) ∧
        (s.link.receiver = .discarding →
          exec .discardingTimeout s =
            .next ({ s with link := { s.link with receiver := .awaitMarker } }.raised 0x400))) ∧
      (s.link.receiver = .awaitMarker → exec .linkGapTimeout s = .next s ∧ exec .discardingTimeout s = .next s)) ∧
  (∀ (s : State) (q code : Byte) (args : List Byte) (check : Byte),
      exec .responseSent s = .next { s with link := { s.link with responses := s.link.responses.drop 1 } } ∧
      (s.path.path ≠ .hold → args.length ≤ 12 → s.link.receiver = .awaitMarker →
        check ≠ crc (frameBody q code args) →
        exec (.linkReject q code args check) s =
          .next ({ s with link := { s.link with
            responses := s.link.responses ++ [Response.mk q .linkReject []] } } |>.raised 0x400)))

/-- R185, R186, R188: a good frame is answered BUSY while a command is in execution, with the stored response when the
store holds its sequence, and neither changes anything but the responses. In HOLD a frame changes nothing. R189: an
unknown code is answered UNKNOWN, and a known command with fewer argument bytes than it takes BAD-ARGUMENT, in every
path state in which the link answers; nothing else changes. MODEL (log 11): a row is the arrival of a whole frame. -/
def Obligations.FramesAreDealtWithInOrder : Prop :=
  (∀ (s : State) (q : Byte) (args : List Byte) (i : Instr),
      ((∃ c : LinkCommand, i = c.row q args) ∨ (∃ code : Byte, LinkCommand.ofCode code = none ∧ i = .unknown q code args)) →
      (s.path.path = .hold → exec i s = .next s) ∧
      (s.path.path ≠ .hold → args.length ≤ 12 → s.link.receiver = .awaitMarker →
      (∀ l : Lock, s.link.lock = some l →
        exec i s = .next { s with link := { s.link with
          responses := s.link.responses ++ [{ seq := q, status := .busy, result := [] }] } }) ∧
      (∀ r : Response, s.link.lock = none → s.link.store = some r → r.seq = q →
        exec i s = .next { s with link := { s.link with responses := s.link.responses ++ [r] } }))) ∧
  (∀ (s : State) (q : Byte) (args : List Byte), WillExecute q args s →
      (∀ code : Byte, LinkCommand.ofCode code = none →
        exec (.unknown q code args) s = .next (s.withReply q .unknown [])) ∧
      (∀ c : LinkCommand, args.length < c.argBytes → exec (c.row q args) s = .next (s.withReply q .badArgument [])))

/-- R187: a good frame of a command is answered by exactly one response formed at once, or is a QUIESCE or a PEEK whose
reply is withheld under the lock. R195: the response of an executed command carries the result bytes of its row of 13.4 with
DONE, and none with any other status. -/
def Obligations.EveryGoodFrameIsAnswered : Prop :=
  (∀ (s : State) (c : LinkCommand) (q : Byte) (args : List Byte), s.path.path ≠ .hold → args.length ≤ 12 →
     s.link.receiver = .awaitMarker →
     ∃ t : State, exec (c.row q args) s = .next t ∧
       ((∃ r : Response, t.link.responses = s.link.responses ++ [r] ∧ r.seq = q) ∨
         (t.link.responses = s.link.responses ∧ s.link.lock = none ∧ (c = .quiesce ∨ c = .peek) ∧
           ∃ x : Executing, t.link.lock = some { seq := q, command := x }))) ∧
  (∀ (s t : State) (c : LinkCommand) (q : Byte) (args : List Byte) (r : Response), WillExecute q args s →
    exec (c.row q args) s = .next t → t.link.responses = s.link.responses ++ [r] →
    r.result.length = if r.status = .ok then c.resultBytes else 0)

/-- 12.2, 13.2: the worked check bytes, the OPEN frame and its DONE response. 13.3, 13.4: the codes of statuses and commands,
the argument bytes and result bytes of each command. 13.5, 13.6: the codes of path states, quiet outcomes, classes, origins,
entry states, substitution and steering origins, last uncorrectable classes, last causes and spares, and the bits of flags
and causes. 13.7: the status codes of the host memory port. -/
def Obligations.CodesAndWorkedFrames : Prop :=
  (crc [0x02, 0x01, 0x10] = 0xB3 ∧ commandFrame 0x01 0x10 [] = [0xA5, 0x02, 0x01, 0x10, 0xB3] ∧
    ({ seq := 0x01, status := .ok, result := [] } : Response).bytes = [0x5A, 0x02, 0x01, 0x00, 0xC3]) ∧
  ([LinkStatus.ok, .accepted, .busy, .refusedState, .badArgument, .unknown, .noSpare, .declined, .abandoned, .entered,
      .linkReject, .empty].map LinkStatus.code = [0, 1, 2, 3, 4, 5, 6, 7, 8, 9, 10, 11] ∧
    LinkCommand.all.map LinkCommand.code =
      [0x01, 0x02, 0x03, 0x10, 0x11, 0x12, 0x13, 0x14, 0x15, 0x16, 0x17, 0x20, 0x21, 0x30, 0x40, 0x41, 0x42, 0x50, 0x51,
       0x52, 0x53, 0x54, 0x55, 0x60, 0x61, 0x62, 0x63, 0x70] ∧
    LinkCommand.all.map LinkCommand.argBytes =
      [0, 1, 5, 0, 0, 0, 0, 0, 0, 0, 1, 2, 3, 5, 1, 1, 0, 3, 1, 4, 2, 1, 1, 2, 1, 2, 1, 0] ∧
    [PathState.hold, .setup, .filling, .opened, .enteringQuiet, .quiet, .waking, .draining, .frozen].map PathState.code =
      [0, 1, 2, 3, 4, 5, 6, 7, 8] ∧
    [QuietOutcome.noOutcome, .entered, .declined, .abandoned].map QuietOutcome.code = [0, 1, 2, 3] ∧
    [WordClass.good, .fixed 0, .poison, .blank, .fault].map WordClass.code = [0, 1, 2, 3, 4] ∧
    [Origin.hostRead, .drain, .scrub, .copy, .migrate].map Origin.code = [1, 2, 3, 4, 5] ∧
    [EntryState.watch, .suspect, .condemned].map EntryState.code = [1, 2, 3] ∧
    [AlertFlag.fixed, .fault, .poisonIn, .mapFull, .condemned, .spareDone, .noSpare, .pass, .fillDone, .supply,
      .link].map AlertFlag.bit = [0, 1, 2, 3, 4, 5, 6, 7, 8, 9, 10] ∧
    [ResetCause.powerOn, .supplyDip, .busReset, .restart].map ResetCause.bit = [0, 1, 2, 3] ∧
    [ResetCause.powerOn, .supplyDip, .busReset, .restart].map ResetCause.code = [0, 1, 2, 3] ∧
    [RepairOrigin.auto, .host, .loaded].map RepairOrigin.code = [1, 2, 3] ∧
    [none, some Uncorrectable.blank, some .fault].map uncorrectableCode = [0, 3, 4] ∧
    [SpareStatus.free, .inUse, .retired].map SpareStatus.code = [0, 1, 2] ∧
    LinkCommand.all.map LinkCommand.resultBytes =
      [15, 5, 0, 0, 0, 0, 0, 0, 0, 2, 0, 0, 0, 11, 16, 0, 0, 0, 0, 0, 0, 9, 16, 0, 0, 0, 7, 13] ∧
    [ReadStatus.good, .fixed, .poison, .blank, .fault, .range, .closed, .tagClash].map ReadStatus.code =
      [0, 1, 2, 3, 4, 5, 6, 7] ∧
    [WriteStatus.taken, .takenPoisoned, .range, .closed].map WriteStatus.code = [0, 1, 2, 3])

/-! ## The link: reports -/

/-- R190, 13.6: STATUS is answered DONE with its 15 bytes and changes nothing. R191, 13.6: GET-PARAM returns the setting
of parameters 0 to 8 in four bytes, most significant first, and answers BAD-ARGUMENT above 8. -/
def Obligations.StatusAndGetParamReport : Prop :=
  (∀ (s : State) (q : Byte) (args : List Byte), WillExecute q args s →
      exec (.status q args) s = .next (s.withReply q .ok
        [s.path.path.code, s.path.resume.path.code, s.path.lastQuiet.code, s.path.causes.flags.setWidth 8,
         BitVec.ofNat 8 (s.alert.flags.toNat / 256), BitVec.ofNat 8 s.alert.flags.toNat,
         BitVec.ofNat 8 (s.alert.enables.toNat / 256), BitVec.ofNat 8 s.alert.enables.toNat,
         if s.alert.master then 1 else 0, BitVec.ofNat 8 s.queue.length, BitVec.ofNat 8 s.port.reads.length,
         BitVec.ofNat 8 ((List.finRange 64).countP (fun i => (s.map.slot i).isSome)),
         BitVec.ofNat 8 ((List.finRange 32).countP (fun i => (s.subs.table.get i).isSome)),
         BitVec.ofNat 8 (s.scrub.pass.toNat / 256), BitVec.ofNat 8 s.scrub.pass.toNat])) ∧
  (∀ (s : State) (q id : Byte) (rest : List Byte), WillExecute q (id :: rest) s →
      (∀ v : Nat, [s.params.arrays.count, s.params.suspectAt, s.params.rowLanes, s.params.laneRows,
          s.params.autoSub.toNat, s.params.autoSteer.toNat, s.params.repairRead.toNat, s.params.scrubInterval,
          s.params.highWater][id.toNat]? = some v →
        exec (.getParam q (id :: rest)) s = .next (s.withReply q .ok
          [id, BitVec.ofNat 8 (v / 16777216), BitVec.ofNat 8 (v / 65536), BitVec.ofNat 8 (v / 256), BitVec.ofNat 8 v])) ∧
      (8 < id.toNat → exec (.getParam q (id :: rest)) s = .next (s.withReply q .badArgument [])))

/-- R69, 13.6: MAP-READ reports an occupied slot's entry with its recency rank, answers EMPTY for an empty slot and BAD-
ARGUMENT above 63, and changes nothing. R91, R92, 13.6: SUB-READ and SPARE-READ report an entry and the sixteen spares
of an array, installed or not, and change nothing. R109, R123, R171, 13.6: LANE-READ, SCRUB-READ and READ-CAUSES
report the steering record, the Scrubber and the reset causes, and change nothing. -/
def Obligations.ReportsShowTheTables : Prop :=
  (∀ (s : State) (q n : Byte) (rest : List Byte), WillExecute q (n :: rest) s →
      (63 < n.toNat → exec (.mapRead q (n :: rest)) s = .next (s.withReply q .badArgument [])) ∧
      (∀ i : Fin 64, i.val = n.toNat →
        (s.map.slot i = none → exec (.mapRead q (n :: rest)) s = .next (s.withReply q .empty [])) ∧
        (∀ e : MapEntry, s.map.slot i = some e →
          exec (.mapRead q (n :: rest)) s = .next (s.withReply q .ok
            [e.state.code, BitVec.ofNat 8 e.array.val, BitVec.ofNat 8 (e.row / 256), BitVec.ofNat 8 e.row,
             (match e.lane with
              | some l => BitVec.ofNat 8 l.val
              | none => 0xFF),
             BitVec.ofNat 8 e.occurrences, BitVec.ofNat 8 (e.lastColumn / 256), BitVec.ofNat 8 e.lastColumn,
             BitVec.ofNat 8 (e.firstPass.toNat / 256), BitVec.ofNat 8 e.firstPass.toNat,
             BitVec.ofNat 8 (e.lastPass.toNat / 256), BitVec.ofNat 8 e.lastPass.toNat, e.lastOrigin.code,
             (match e.lastClass with
              | none => 0
              | some .blank => 3
              | some .fault => 4),
             BitVec.ofNat 8 (s.map.recency.idxOf i + 1), n])))) ∧
  (∀ (s : State) (q n : Byte) (rest : List Byte), WillExecute q (n :: rest) s →
      (31 < n.toNat → exec (.subRead q (n :: rest)) s = .next (s.withReply q .badArgument [])) ∧
      (∀ i : Fin 32, i.val = n.toNat →
        (s.subs.table.get i = none → exec (.subRead q (n :: rest)) s = .next (s.withReply q .empty [])) ∧
        (∀ e : SubEntry, s.subs.table.get i = some e →
          (∀ (src : CopySource) (c : Nat), e.phase = .copying src c →
            exec (.subRead q (n :: rest)) s = .next (s.withReply q .ok
              [0x01, BitVec.ofNat 8 e.array.val, BitVec.ofNat 8 (e.hostRow / 256), BitVec.ofNat 8 e.hostRow,
               (match src with
                | .hostRow => 0x80
                | .spare p => BitVec.ofNat 8 p.val),
               BitVec.ofNat 8 e.target.val, BitVec.ofNat 8 (c / 256), BitVec.ofNat 8 c, e.origin.code])) ∧
          (e.phase = .active →
            exec (.subRead q (n :: rest)) s = .next (s.withReply q .ok
              [0x02, BitVec.ofNat 8 e.array.val, BitVec.ofNat 8 (e.hostRow / 256), BitVec.ofNat 8 e.hostRow,
               0xFF, BitVec.ofNat 8 e.target.val, 0xFF, 0xFF, e.origin.code])))) ∧
      (7 < n.toNat → exec (.spareRead q (n :: rest)) s = .next (s.withReply q .badArgument [])) ∧
      (∀ a : ArrayNo, a.val = n.toNat →
        exec (.spareRead q (n :: rest)) s = .next (s.withReply q .ok
          ((List.finRange 16).map (fun p => match s.spare a p with
            | .free => 0
            | .inUse => 1
            | .retired => 2))))) ∧
  (∀ (s : State) (q : Byte) (args : List Byte), WillExecute q args s →
      (∀ (n : Byte) (rest : List Byte), args = n :: rest →
        (7 < n.toNat → exec (.laneRead q args) s = .next (s.withReply q .badArgument [])) ∧
        (∀ a : ArrayNo, a.val = n.toNat →
          exec (.laneRead q args) s = .next (s.withReply q .ok (match s.steerOf a with
            | .normal => [0x00, 0xFF, 0x00, 0xFF, 0xFF, 0xFF, 0xFF]
            | .migrating k c o => [0x01, BitVec.ofNat 8 k.val, o.code, BitVec.ofNat 8 (c / 16777216),
                BitVec.ofNat 8 (c / 65536), BitVec.ofNat 8 (c / 256), BitVec.ofNat 8 c]
            | .steered k o => [0x02, BitVec.ofNat 8 k.val, o.code, 0xFF, 0xFF, 0xFF, 0xFF])))) ∧
      exec (.scrubRead q args) s = .next (s.withReply q .ok
        ([BitVec.ofNat 8 s.scrub.cursor.array.val, BitVec.ofNat 8 (s.scrub.cursor.row / 256),
          BitVec.ofNat 8 s.scrub.cursor.row, BitVec.ofNat 8 (s.scrub.cursor.column / 256),
          BitVec.ofNat 8 s.scrub.cursor.column, BitVec.ofNat 8 (s.scrub.pass.toNat / 256),
          BitVec.ofNat 8 s.scrub.pass.toNat] ++
         (match s.scrub.fill with
          | none => [0x00, 0xFF, 0xFF, 0xFF, 0xFF, 0xFF]
          | some p => [0x01, BitVec.ofNat 8 p.array.val, BitVec.ofNat 8 (p.index.val / 16777216),
              BitVec.ofNat 8 (p.index.val / 65536), BitVec.ofNat 8 (p.index.val / 256), BitVec.ofNat 8 p.index.val]))) ∧
      exec (.readCauses q args) s = .next (s.withReply q .ok
        [s.path.causes.flags.setWidth 8, (match s.path.causes.last with
          | .powerOn => 0
          | .supplyDip => 1
          | .busReset => 2
          | .restart => 3)]))

/-! ## The link: settings, path states, alerts -/

/-- R16, R18, R48, R119, R192: SET-PARAM for ARRAYS, in SETUP with no entry queued and no read outstanding, takes 1, 2, 4
or 8, and keeps tables, records and contents; a cursor on an array that left returns to the first position. It is
refused otherwise. R37, R59, R82, R100, R115, R138, R192: SET-PARAM for the other parameters takes a value in range,
in every path state in which the link answers, and answers BAD-ARGUMENT to another value or to an id above 8. SCRUB-
INTERVAL restarts the timer, and 0 withdraws a waiting SCRUB claim. -/
def Obligations.SetParamSetsParameters : Prop :=
  (∀ (s : State) (q v3 v2 v1 v0 : Byte) (rest : List Byte), WillExecute q (0 :: v3 :: v2 :: v1 :: v0 :: rest) s →
      (¬(s.path.path = .setup ∧ s.queue = [] ∧ s.port.reads = []) →
        exec (.setParam q (0 :: v3 :: v2 :: v1 :: v0 :: rest)) s = .next (s.withReply q .refusedState [])) ∧
      (s.path.path = .setup → s.queue = [] → s.port.reads = [] →
        (∀ n : ArrayCount, v3 = 0 → v2 = 0 → v1 = 0 → v0.toNat = n.count →
          ∃ t : State, exec (.setParam q (0 :: v3 :: v2 :: v1 :: v0 :: rest)) s = .next t ∧
            t.params = { s.params with arrays := n } ∧ t.link = (s.withReply q .ok []).link ∧
            t.map = s.map ∧ t.subs = s.subs ∧ t.steer = s.steer ∧ t.mem = s.mem ∧ t.alert = s.alert ∧ t.path = s.path ∧
            t.queue = s.queue ∧ t.port = s.port ∧ t.scrub.pass = s.scrub.pass ∧ t.scrub.fill = s.scrub.fill ∧
            (∀ a : ArrayNo, (t.turn a).isSome = (s.turn a).isSome) ∧
            (s.scrub.cursor.array.val < n.count → t.scrub = s.scrub) ∧
            (n.count ≤ s.scrub.cursor.array.val → t.scrub.claim = false ∧
              (rowVisited s 0 0 = true → t.scrub.cursor = { array := 0, row := 0, column := 0 }))) ∧
        ((¬(v3 = 0 ∧ v2 = 0 ∧ v1 = 0) ∨ (v0 ≠ 1 ∧ v0 ≠ 2 ∧ v0 ≠ 4 ∧ v0 ≠ 8)) →
          exec (.setParam q (0 :: v3 :: v2 :: v1 :: v0 :: rest)) s = .next (s.withReply q .badArgument [])))) ∧
  (∀ (s : State) (q id v3 v2 v1 v0 : Byte) (rest : List Byte) (v : Nat),
      WillExecute q (id :: v3 :: v2 :: v1 :: v0 :: rest) s → id ≠ 0 →
      v = v3.toNat * 16777216 + v2.toNat * 65536 + v1.toNat * 256 + v0.toNat →
      exec (.setParam q (id :: v3 :: v2 :: v1 :: v0 :: rest)) s = .next (
        if id = 1 ∧ 1 ≤ v ∧ v ≤ 15 then { s with params := { s.params with suspectAt := v } }.withReply q .ok []
        else if id = 2 ∧ 1 ≤ v ∧ v ≤ 8 then { s with params := { s.params with rowLanes := v } }.withReply q .ok []
        else if id = 3 ∧ 1 ≤ v ∧ v ≤ 16 then { s with params := { s.params with laneRows := v } }.withReply q .ok []
        else if id = 4 ∧ v ≤ 1 then { s with params := { s.params with autoSub := decide (v = 1) } }.withReply q .ok []
        else if id = 5 ∧ v ≤ 1 then { s with params := { s.params with autoSteer := decide (v = 1) } }.withReply q .ok []
        else if id = 6 ∧ v ≤ 1 then { s with params := { s.params with repairRead := decide (v = 1) } }.withReply q .ok []
        else if id = 7 ∧ v ≤ 65535 then
          { s with
            params := { s.params with scrubInterval := v }
            scrub := { s.scrub with timer := v, claim := if v = 0 then false else s.scrub.claim } }.withReply q .ok []
        else if id = 8 ∧ 1 ≤ v ∧ v ≤ 16 then { s with params := { s.params with highWater := v } }.withReply q .ok []
        else s.withReply q .badArgument []))

/-- R161, R146, R120: OPEN, CLOSE and FILL by the path state; a request kept waiting is answered CLOSED at CLOSE; FILL
puts the fill cursor at array 0, index 0. R162, R164, R165: QUIESCE in OPEN is DECLINED while the alert condition
holds, and else enters ENTERING-QUIET with its reply withheld; elsewhere it is refused. A request kept waiting
abandons the entry at once. WAKE begins a wake in QUIET, changes nothing in WAKING and is refused elsewhere. -/
def Obligations.PathCommandsMoveThePath : Prop :=
  (∀ (s : State) (q : Byte) (args : List Byte), WillExecute q args s →
      (s.path.path = .opened → exec (.openPort q args) s = .next (s.withReply q .ok [])) ∧
      (s.path.path = .setup → exec (.closePort q args) s = .next (s.withReply q .ok [])) ∧
      (s.path.path = .setup → s.port.waiting = none →
        exec (.openPort q args) s = .next ((s.withPath .opened .opened).withReply q .ok []) ∧
        exec (.fill q args) s = .next ({ s with
          scrub := { s.scrub with fill := some { array := 0, index := 0 } } }.withPath .filling .filling |>.withReply q .ok [])) ∧
      (s.path.path = .opened → s.port.waiting = none →
        exec (.closePort q args) s = .next ((s.withPath .setup .setup).withReply q .ok [])) ∧
      (∀ r : Request, s.path.path = .opened → s.busReset = false → s.port.waiting = some r →
        exec (.closePort q args) s = .next (({ s with
          port := { s.port with waiting := none, answers := s.port.answers ++ [closedAnswer r] }
          }.withPath .setup .setup).withReply q .ok [])) ∧
      (s.path.path ≠ .setup → s.path.path ≠ .opened →
        exec (.openPort q args) s = .next (s.withReply q .refusedState []) ∧
        exec (.closePort q args) s = .next (s.withReply q .refusedState [])) ∧
      (s.path.path ≠ .setup → exec (.fill q args) s = .next (s.withReply q .refusedState []))) ∧
  (∀ (s : State) (q : Byte) (args : List Byte), WillExecute q args s →
      (s.path.path = .opened → alertCondition s.alert = true →
        exec (.quiesce q args) s =
          .next ({ s with path := { s.path with lastQuiet := .declined } }.withReply q .declined [])) ∧
      (s.path.path = .opened → alertCondition s.alert = false → s.port.waiting = none →
        exec (.quiesce q args) s =
          .next ({ s with link := { s.link with lock := some { seq := q, command := .quiesce } }
                   }.withPath .enteringQuiet s.path.resume)) ∧
      (∀ r : Request, s.path.path = .opened → alertCondition s.alert = false → s.busReset = false →
        s.port.waiting = some r →
        exec (.quiesce q args) s = exec .requestWeighedAgain
          ({ s with path := { s.path with resume := .opened, lastQuiet := .abandoned } }.withReply q .abandoned [])) ∧
      (s.path.path ≠ .opened → exec (.quiesce q args) s = .next (s.withReply q .refusedState [])) ∧
      (s.path.path = .quiet → exec (.wake q args) s = .next ((s.withPath .waking s.path.resume).withReply q .ok [])) ∧
      (s.path.path = .waking → exec (.wake q args) s = .next (s.withReply q .ok [])) ∧
      (s.path.path ≠ .quiet → s.path.path ≠ .waking → exec (.wake q args) s = .next (s.withReply q .refusedState [])))

/-- R169, R187, with R122, R156 and R172: RESTART is answered DONE, discards the reads, abandons a fill, returns every
parameter but ARRAYS to its default, stops the scrub interval, clears flags and enables, records RESTART, answers a request
kept waiting in OPEN CLOSED and keeps one in WAKING, moves the path state by R169's table, and keeps everything else.
MODEL (log 13): its effects are one step. -/
def Obligations.RestartApplies : Prop :=
  ∀ (s : State) (q : Byte) (args : List Byte), WillExecute q args s → s.path.path ≠ .enteringQuiet →
    ∃ t : State, exec (.restart q args) s = .next t ∧
      t.params = { Params.default with arrays := s.params.arrays } ∧
      t.scrub = { s.scrub with timer := 0, claim := false, fill := none } ∧
      t.alert = { flags := 0, enables := 0, master := false } ∧
      t.path = { s.path with
        path := (match s.path.path with
          | .setup | .filling | .opened => .setup
          | .quiet => .waking
          | p => p)
        resume := .setup
        causes := { flags := s.path.causes.flags ||| 8, last := .restart } } ∧
      t.link = (s.withReply q .ok []).link ∧
      t.port.reads = [] ∧ t.port.nextPlace = s.port.nextPlace ∧
      (s.port.waiting = none → t.port.waiting = none ∧ t.port.answers = s.port.answers) ∧
      (∀ r : Request, s.port.waiting = some r → s.busReset = false →
        (s.path.path = .opened → t.port.waiting = none ∧ t.port.answers = s.port.answers ++ [closedAnswer r]) ∧
        (s.path.path = .waking → t.port.waiting = some r ∧ t.port.answers = s.port.answers)) ∧
      t.queue = s.queue ∧ t.map = s.map ∧ t.subs = s.subs ∧ t.steer = s.steer ∧ t.mem = s.mem ∧ t.epoch = s.epoch ∧
      (∀ a : ArrayNo, t.turn a = (match s.turn a with
        | some { work := .fill i _, steer := r } => some { work := .fill i true, steer := r }
        | x => x))

/-- R171, R176, R177, R194, with the alert condition of R174 and the wake of R175: CLEAR-CAUSES and CLEAR-FLAGS clear what
their masks name, SET-ENABLES sets all twelve together; each changes nothing else, but in QUIET a condition that comes to
hold begins a wake. -/
def Obligations.CausesFlagsAndEnables : Prop :=
  ∀ (s : State) (q : Byte) (args : List Byte), WillExecute q args s →
    (∀ (m : Byte) (rest : List Byte), args = m :: rest →
      exec (.clearCauses q args) s = .next ({ s with path := { s.path with
        causes := { s.path.causes with flags := s.path.causes.flags &&& ~~~(m.setWidth 4) } } }.withReply q .ok [])) ∧
    (∀ (m1 m0 : Byte) (rest : List Byte), args = m1 :: m0 :: rest →
      exec (.clearFlags q args) s = .next ({ s with
        alert := { s.alert with flags := s.alert.flags &&& ~~~((m1 ++ m0).setWidth 11) } }.withReply q .ok [])) ∧
    (∀ (m1 m0 m : Byte) (rest : List Byte), args = m1 :: m0 :: m :: rest →
      exec (.setEnables q args) s = .next ((s.withAlert
        { s.alert with enables := (m1 ++ m0).setWidth 11, master := m.getLsbD 0 }).withReply q .ok []))

/-- R174: the alert condition holds while the master enable is on and some set flag has its enable on, and the alert line is
asserted exactly when it holds outside HOLD. R163, R165, R175: the part is never left in QUIET with the condition holding;
an occurrence whose flags make it hold in QUIET begins a wake, and in no other case does an occurrence change the path
state. -/
def Obligations.AlertLineAndWakes : Prop :=
  (∀ s : State, alertLine s = true ↔ s.path.path ≠ .hold ∧ s.alert.master = true ∧
    ∃ f : AlertFlag, s.alert.flags.getLsbD f.bit = true ∧ s.alert.enables.getLsbD f.bit = true) ∧
  (∀ u : AlertUnit, alertCondition u = true ↔ u.master = true ∧
    ∃ f : AlertFlag, u.flags.getLsbD f.bit = true ∧ u.enables.getLsbD f.bit = true) ∧
  (∀ s t : State, (s.path.path = .quiet → alertCondition s.alert = false) → step s = .next t →
    t.path.path = .quiet → alertCondition t.alert = false) ∧
  (∀ (s : State) (o : Occurrence), (deliver o s).path =
    if s.path.path = .quiet ∧ alertCondition s.alert = false ∧ alertCondition (deliver o s).alert = true
    then { s.path with path := .waking } else s.path)

/-! ## The link: PEEK, map, rows, lanes -/

/-- R44: PEEK is refused outside SETUP, FILLING and OPEN, answers BAD-ARGUMENT for an array not installed, a row above
32,783 or a column above 1,023, and else places its claim with the reply withheld. R45: a completed PEEK is answered
DONE with the 73 lanes as stored and the class, and writes and reports nothing. MODEL (log 3, 9): the lanes `flips`
have changed in the array when the turn reads, and it reads and writes at its completion. -/
def Obligations.PeekAnswersTheStoredWord : Prop :=
  (∀ (s : State) (q a r1 r0 c1 c0 : Byte) (rest : List Byte), WillExecute q (a :: r1 :: r0 :: c1 :: c0 :: rest) s →
      (¬(s.path.path = .setup ∨ s.path.path = .filling ∨ s.path.path = .opened) →
        exec (.peek q (a :: r1 :: r0 :: c1 :: c0 :: rest)) s = .next (s.withReply q .refusedState [])) ∧
      ((s.path.path = .setup ∨ s.path.path = .filling ∨ s.path.path = .opened) →
        ((s.params.arrays.count ≤ a.toNat ∨ 32783 < r1.toNat * 256 + r0.toNat ∨ 1023 < c1.toNat * 256 + c0.toNat) →
          exec (.peek q (a :: r1 :: r0 :: c1 :: c0 :: rest)) s = .next (s.withReply q .badArgument [])) ∧
        (∀ (n : ArrayNo) (w : PhysIndex), n.val = a.toNat → n.val < s.params.arrays.count →
          c1.toNat * 256 + c0.toNat ≤ 1023 →
          w.val = (r1.toNat * 256 + r0.toNat) * 1024 + (c1.toNat * 256 + c0.toNat) →
          exec (.peek q (a :: r1 :: r0 :: c1 :: c0 :: rest)) s = .next { s with link := { s.link with
            lock := some { seq := q, command := .peek n w false } } }))) ∧
  (∀ (s : State) (a b : ArrayNo) (flips : Stored) (i w : PhysIndex) (r : SteerRecord) (q : Byte),
      s.turn a = some { work := .peek i, steer := r } → s.link.lock = some { seq := q, command := .peek b w true } →
      ∃ t : State, exec (.peekTurnComplete a flips) s = .next t ∧
        SameControl s t ∧ SameSetting s t ∧ OnlyTurnEnded a s t ∧ t.queue = s.queue ∧ t.port = s.port ∧
        t.scrub = s.scrub ∧ t.word a i = s.word a i ^^^ flips ∧ WordsKeptBut a [i] s t ∧
        t.link = ({ s with link := { s.link with lock := none } }.withReply q .ok
          [(s.word a i ^^^ flips).extractLsb' 0 8, (s.word a i ^^^ flips).extractLsb' 8 8,
           (s.word a i ^^^ flips).extractLsb' 16 8, (s.word a i ^^^ flips).extractLsb' 24 8,
           (s.word a i ^^^ flips).extractLsb' 32 8, (s.word a i ^^^ flips).extractLsb' 40 8,
           (s.word a i ^^^ flips).extractLsb' 48 8, (s.word a i ^^^ flips).extractLsb' 56 8,
           (s.word a i ^^^ flips).extractLsb' 64 8, if (s.word a i ^^^ flips).getLsbD 72 then 1 else 0,
           (decodeNow s a i r flips).cls.code]).link)

/-- R70, R71: MAP-DELETE empties an occupied slot and closes up the recency order, MAP-PURGE empties the map; neither
changes anything else. -/
def Obligations.MapEntriesAreDeleted : Prop :=
  ∀ (s : State) (q : Byte) (args : List Byte), WillExecute q args s →
    (∀ (n : Byte) (rest : List Byte), args = n :: rest →
      (63 < n.toNat → exec (.mapDelete q args) s = .next (s.withReply q .badArgument [])) ∧
      (∀ i : Fin 64, i.val = n.toNat →
        (s.map.slot i = none → exec (.mapDelete q args) s = .next (s.withReply q .empty [])) ∧
        (∀ e : MapEntry, s.map.slot i = some e → ∃ m : FaultMap,
          exec (.mapDelete q args) s = .next ({ s with map := m }.withReply q .ok []) ∧
          (∀ j : Fin 64, m.slot j = if j = i then none else s.map.slot j) ∧ m.recency = s.map.recency.erase i))) ∧
    (∃ m : FaultMap, exec (.mapPurge q args) s = .next ({ s with map := m }.withReply q .ok []) ∧
      (∀ j : Fin 64, m.slot j = none) ∧ m.recency = [])

/-- R87, R77: CONDEMN-ROW of a host row: refused outside SETUP and OPEN, BAD-ARGUMENT for an array not installed or a row
above 32,783; DONE for a row that has an entry; else the lowest FREE entry is COPYING to the lowest FREE spare, origin
HOST, whatever AUTO-SUB, answered ACCEPTED; NO-SPARE when either is lacking. R79, R80, R81, R87: CONDEMN-ROW of a
spare row: BAD-ARGUMENT unless it is the target of an entry; under an ACTIVE entry the entry is re-targeted with the
spare as its source, or NO-SPARE; under a COPYING entry the spare is RETIRED and the copy restarts from cursor 0 on
the lowest FREE spare, or is abandoned. -/
def Obligations.CondemnRowStartsRepairs : Prop :=
  (∀ (s : State) (q a r1 r0 : Byte) (rest : List Byte) (row : Nat), row = r1.toNat * 256 + r0.toNat →
      WillExecute q (a :: r1 :: r0 :: rest) s →
      (s.path.path ≠ .setup → s.path.path ≠ .opened →
        exec (.condemnRow q (a :: r1 :: r0 :: rest)) s = .next (s.withReply q .refusedState [])) ∧
      ((s.path.path = .setup ∨ s.path.path = .opened) →
        ((s.params.arrays.count ≤ a.toNat ∨ 32783 < row) →
          exec (.condemnRow q (a :: r1 :: r0 :: rest)) s = .next (s.withReply q .badArgument [])) ∧
        (∀ n : ArrayNo, n.val = a.toNat → n.val < s.params.arrays.count → row < 32768 →
          ((entryFor s n row).isSome = true →
            exec (.condemnRow q (a :: r1 :: r0 :: rest)) s = .next (s.withReply q .ok [])) ∧
          (∀ (i : Fin 32) (p : SpareNo), entryFor s n row = none → freeEntry s = some i → freeSpare s n = some p →
            exec (.condemnRow q (a :: r1 :: r0 :: rest)) s = .next ((setEntry i
              (some { array := n, hostRow := row, phase := .copying .hostRow 0, target := p, origin := .host })
              (setSpare n p .inUse s)).withReply q .accepted [])) ∧
          (entryFor s n row = none → (freeEntry s = none ∨ freeSpare s n = none) →
            exec (.condemnRow q (a :: r1 :: r0 :: rest)) s =
              .next ((s.withFlags 0x40).withReply q .noSpare []))))) ∧
  (∀ (s : State) (q a r1 r0 : Byte) (rest : List Byte) (n : ArrayNo) (p : SpareNo), SubsOk s →
      r1.toNat * 256 + r0.toNat = 32768 + p.val → n.val = a.toNat → n.val < s.params.arrays.count →
      WillExecute q (a :: r1 :: r0 :: rest) s → (s.path.path = .setup ∨ s.path.path = .opened) →
      ((∀ i : Fin 32, ∀ e ∈ s.subs.table.get i, ¬(e.array = n ∧ e.target = p)) →
        exec (.condemnRow q (a :: r1 :: r0 :: rest)) s = .next (s.withReply q .badArgument [])) ∧
      (∀ (i : Fin 32) (e : SubEntry), s.subs.table.get i = some e → e.array = n → e.target = p →
        (e.phase = .active →
          (∀ p' : SpareNo, freeSpare s n = some p' →
            exec (.condemnRow q (a :: r1 :: r0 :: rest)) s = .next ((setEntry i
              (some { e with phase := .copying (.spare p) 0, target := p', origin := .host })
              (setSpare n p' .inUse s)).withReply q .accepted [])) ∧
          (freeSpare s n = none →
            exec (.condemnRow q (a :: r1 :: r0 :: rest)) s = .next ((s.withFlags 0x40).withReply q .noSpare []))) ∧
        (∀ (src : CopySource) (c : Nat), e.phase = .copying src c →
          ∃ t : State,
            exec (.condemnRow q (a :: r1 :: r0 :: rest)) s =
              .next (t.withReply q (if (freeSpare s n).isSome then .accepted else .noSpare) []) ∧
            t.spare n p = .retired ∧
            (∀ p' : SpareNo, freeSpare s n = some p' → t.spare n p' = .inUse ∧
              t.subs.table.get i = some { e with phase := .copying src 0, target := p' } ∧ t.alert = s.alert) ∧
            (freeSpare s n = none →
              t.subs.table.get i = (match src with
                | .hostRow => none
                | .spare p0 => some { e with phase := .active, target := p0 }) ∧
              t.alert = { s.alert with flags := s.alert.flags ||| 0x40 }) ∧
            (∀ j : Fin 32, j ≠ i → t.subs.table.get j = s.subs.table.get j) ∧
            (∀ h sw tw r, s.turn n = some { work := .copy h sw tw, steer := r } → h.entry = i →
              t.turn n = some { work := .copy { h with void := true } sw tw, steer := r }) ∧
            t.map = s.map ∧ t.steer = s.steer ∧ t.path = s.path ∧ t.scrub = s.scrub ∧ t.queue = s.queue ∧
            t.port = s.port ∧ t.link = s.link ∧ SameSetting s t ∧ t.mem = s.mem)))

/-- R83, R88: SUB-CANCEL: BAD-ARGUMENT above 31 or for an ACTIVE entry, EMPTY for a FREE one; a COPYING entry becomes
FREE, or ACTIVE on its source spare, its target FREE, and its copy in hand void. R89, R90: SUB-LOAD, in SETUP alone,
makes the lowest FREE entry ACTIVE on the FREE spare named, origin LOADED, or answers BAD-ARGUMENT, or NO-SPARE with
no entry FREE; SPARE-RETIRE retires a spare that is not IN-USE. -/
def Obligations.RepairsGivenUpLoadedRetired : Prop :=
  (∀ (s : State) (q n : Byte) (rest : List Byte), WillExecute q (n :: rest) s →
      (31 < n.toNat → exec (.subCancel q (n :: rest)) s = .next (s.withReply q .badArgument [])) ∧
      (∀ i : Fin 32, i.val = n.toNat →
        (s.subs.table.get i = none → exec (.subCancel q (n :: rest)) s = .next (s.withReply q .empty [])) ∧
        (∀ e : SubEntry, s.subs.table.get i = some e →
          (e.phase = .active → exec (.subCancel q (n :: rest)) s = .next (s.withReply q .badArgument [])) ∧
          (∀ (src : CopySource) (c : Nat), e.phase = .copying src c →
            ∃ t : State, exec (.subCancel q (n :: rest)) s = .next (t.withReply q .ok []) ∧
              t.subs.table.get i = (match src with
                | .hostRow => none
                | .spare p0 => some { e with phase := .active, target := p0 }) ∧
              (∀ j : Fin 32, j ≠ i → t.subs.table.get j = s.subs.table.get j) ∧
              (∀ (b : ArrayNo) (p : SpareNo),
                t.spare b p = if b = e.array ∧ p = e.target then .free else s.spare b p) ∧
              (∀ h sw tw r, s.turn e.array = some { work := .copy h sw tw, steer := r } → h.entry = i →
                t.turn e.array = some { work := .copy { h with void := true } sw tw, steer := r }) ∧
              t.map = s.map ∧ t.steer = s.steer ∧ t.alert = s.alert ∧ t.path = s.path ∧ t.scrub = s.scrub ∧
              t.queue = s.queue ∧ t.port = s.port ∧ t.link = s.link ∧ SameSetting s t ∧ t.mem = s.mem)))) ∧
  (∀ (s : State) (q a : Byte),
      (s.params.arrays.count ≤ a.toNat →
        (∀ (r1 r0 b : Byte) (rest : List Byte), WillExecute q (a :: r1 :: r0 :: b :: rest) s →
          exec (.subLoad q (a :: r1 :: r0 :: b :: rest)) s =
            .next (s.withReply q (if s.path.path = .setup then .badArgument else .refusedState) [])) ∧
        (∀ (b : Byte) (rest : List Byte), WillExecute q (a :: b :: rest) s →
          exec (.spareRetire q (a :: b :: rest)) s = .next (s.withReply q .badArgument []))) ∧
      (∀ n : ArrayNo, n.val = a.toNat → n.val < s.params.arrays.count →
        (∀ (r1 r0 b : Byte) (rest : List Byte), WillExecute q (a :: r1 :: r0 :: b :: rest) s →
          (s.path.path ≠ .setup →
            exec (.subLoad q (a :: r1 :: r0 :: b :: rest)) s = .next (s.withReply q .refusedState [])) ∧
          (s.path.path = .setup →
            ((32767 < r1.toNat * 256 + r0.toNat ∨ 15 < b.toNat ∨ (∃ p : SpareNo, p.val = b.toNat ∧ s.spare n p ≠ .free) ∨
                (entryFor s n (r1.toNat * 256 + r0.toNat)).isSome = true) →
              exec (.subLoad q (a :: r1 :: r0 :: b :: rest)) s = .next (s.withReply q .badArgument [])) ∧
            (∀ p : SpareNo, p.val = b.toNat → r1.toNat * 256 + r0.toNat ≤ 32767 → s.spare n p = .free →
              entryFor s n (r1.toNat * 256 + r0.toNat) = none →
              (freeEntry s = none →
                exec (.subLoad q (a :: r1 :: r0 :: b :: rest)) s = .next (s.withReply q .noSpare [])) ∧
              (∀ i : Fin 32, freeEntry s = some i →
                exec (.subLoad q (a :: r1 :: r0 :: b :: rest)) s = .next ((setEntry i
                  (some { array := n, hostRow := r1.toNat * 256 + r0.toNat, phase := .active, target := p,
                          origin := .loaded }) (setSpare n p .inUse s)).withReply q .ok []))))) ∧
        (∀ (b : Byte) (rest : List Byte), WillExecute q (a :: b :: rest) s →
          (15 < b.toNat → exec (.spareRetire q (a :: b :: rest)) s = .next (s.withReply q .badArgument [])) ∧
          (∀ p : SpareNo, p.val = b.toNat →
            (s.spare n p = .inUse → exec (.spareRetire q (a :: b :: rest)) s = .next (s.withReply q .badArgument [])) ∧
            (s.spare n p = .free →
              exec (.spareRetire q (a :: b :: rest)) s = .next ((setSpare n p .retired s).withReply q .ok [])) ∧
            (s.spare n p = .retired → exec (.spareRetire q (a :: b :: rest)) s = .next (s.withReply q .ok []))))))

/-- R97, R98, R106: CONDEMN-LANE: refused outside SETUP and OPEN, BAD-ARGUMENT for an array not installed or a lane above
71; a NORMAL record becomes MIGRATING on the lane with cursor 0 and origin HOST, whatever AUTO-STEER; the lane already
named is answered DONE; another lane NO-SPARE. R101, R107, R108: LANE-CANCEL returns a MIGRATING record to NORMAL with
its migration in hand void, answers EMPTY for NORMAL and BAD-ARGUMENT for STEERED; LANE-LOAD, in SETUP alone, makes a
NORMAL record STEERED with origin LOADED. -/
def Obligations.LaneCommandsSteerAndRestore : Prop :=
  (∀ (s : State) (q a l : Byte) (rest : List Byte), WillExecute q (a :: l :: rest) s →
      (s.path.path ≠ .setup → s.path.path ≠ .opened →
        exec (.condemnLane q (a :: l :: rest)) s = .next (s.withReply q .refusedState [])) ∧
      ((s.path.path = .setup ∨ s.path.path = .opened) →
        ((s.params.arrays.count ≤ a.toNat ∨ 71 < l.toNat) →
          exec (.condemnLane q (a :: l :: rest)) s = .next (s.withReply q .badArgument [])) ∧
        (∀ (n : ArrayNo) (k : CodedLane), n.val = a.toNat → n.val < s.params.arrays.count → k.val = l.toNat →
          (s.steerOf n = .normal → ∃ t : State,
            exec (.condemnLane q (a :: l :: rest)) s = .next ({ s with steer := t.steer }.withReply q .accepted []) ∧
            t.steerOf n = .migrating k 0 .host ∧ ∀ b : ArrayNo, b ≠ n → t.steerOf b = s.steerOf b) ∧
          (namedLane (s.steerOf n) = some k →
            exec (.condemnLane q (a :: l :: rest)) s = .next (s.withReply q .ok [])) ∧
          (∀ j : CodedLane, namedLane (s.steerOf n) = some j → j ≠ k →
            exec (.condemnLane q (a :: l :: rest)) s = .next ((s.withFlags 0x40).withReply q .noSpare []))))) ∧
  (∀ (s : State) (q a : Byte),
      (s.params.arrays.count ≤ a.toNat →
        (∀ rest : List Byte, WillExecute q (a :: rest) s →
          exec (.laneCancel q (a :: rest)) s = .next (s.withReply q .badArgument [])) ∧
        (∀ (l : Byte) (rest : List Byte), WillExecute q (a :: l :: rest) s →
          exec (.laneLoad q (a :: l :: rest)) s =
            .next (s.withReply q (if s.path.path = .setup then .badArgument else .refusedState) []))) ∧
      (∀ n : ArrayNo, n.val = a.toNat → n.val < s.params.arrays.count →
        (∀ rest : List Byte, WillExecute q (a :: rest) s →
          (s.steerOf n = .normal → exec (.laneCancel q (a :: rest)) s = .next (s.withReply q .empty [])) ∧
          (∀ k o, s.steerOf n = .steered k o →
            exec (.laneCancel q (a :: rest)) s = .next (s.withReply q .badArgument [])) ∧
          (∀ k c o, s.steerOf n = .migrating k c o → ∃ t : State,
            exec (.laneCancel q (a :: rest)) s =
              .next ({ s with steer := t.steer, turns := t.turns }.withReply q .ok []) ∧
            t.steerOf n = .normal ∧ (∀ b : ArrayNo, b ≠ n → t.steerOf b = s.steerOf b ∧ t.turn b = s.turn b) ∧
            t.turn n = (match s.turn n with
              | some { work := .migrate k' i _, steer := r } => some { work := .migrate k' i true, steer := r }
              | x => x))) ∧
        (∀ (l : Byte) (rest : List Byte), WillExecute q (a :: l :: rest) s →
          (s.path.path ≠ .setup → exec (.laneLoad q (a :: l :: rest)) s = .next (s.withReply q .refusedState [])) ∧
          (s.path.path = .setup →
            ((71 < l.toNat ∨ s.steerOf n ≠ .normal) →
              exec (.laneLoad q (a :: l :: rest)) s = .next (s.withReply q .badArgument [])) ∧
            (∀ k : CodedLane, k.val = l.toNat → s.steerOf n = .normal → ∃ t : State,
              exec (.laneLoad q (a :: l :: rest)) s = .next ({ s with steer := t.steer }.withReply q .ok []) ∧
              t.steerOf n = .steered k .loaded ∧ ∀ b : ArrayNo, b ≠ n → t.steerOf b = s.steerOf b)))))
end

