-- ==== Sys2Proof/Laws/CheckCode.lean ====
section
/-! SUPPORT. The check code is linear over exclusive-or (R3): what the decode of a flipped lane rests on. -/

namespace Sys2Proof.Machine

theorem dataCheckBelow_xor (n : Nat) (d e : Data) :
    dataCheckBelow n (d ^^^ e) = dataCheckBelow n d ^^^ dataCheckBelow n e := by
  induction n with
  | zero => simp [dataCheckBelow]
  | succ n ih =>
    simp only [dataCheckBelow, ih, BitVec.getLsbD_xor]
    cases d.getLsbD n <;> cases e.getLsbD n
    · simp
    · simp only [Bool.xor_true, Bool.not_false, Bool.false_eq_true, if_true, if_false]
      ac_rfl
    · simp only [Bool.xor_false, Bool.false_eq_true, if_true, if_false]
      ac_rfl
    · simp only [Bool.xor_true, Bool.not_true, Bool.false_eq_true, if_true, if_false]
      rw [show ∀ l x y : Byte, l ^^^ x ^^^ (l ^^^ y) = (l ^^^ l) ^^^ (x ^^^ y) from fun l x y => by ac_rfl]
      simp

/-- The data check value of an exclusive-or (R3). -/
theorem dataCheck_xor (d e : Data) : dataCheck (d ^^^ e) = dataCheck d ^^^ dataCheck e := dataCheckBelow_xor 64 d e

/-- Lanes flipped in the lanes read change the syndrome by a value that does not depend on the word (R6). -/
theorem syndrome_xor (c e : Coded) : syndrome (c ^^^ e) = syndrome c ^^^ (dataCheck (dataLanes e) ^^^ checkLanes e) := by
  have h1 : dataLanes (c ^^^ e) = dataLanes c ^^^ dataLanes e := by
    apply BitVec.eq_of_getLsbD_eq
    intro i hi
    simp [dataLanes]
  have h2 : checkLanes (c ^^^ e) = checkLanes c ^^^ checkLanes e := by
    apply BitVec.eq_of_getLsbD_eq
    intro i hi
    simp [checkLanes, hi]
  simp only [syndrome, h1, h2, dataCheck_xor]
  ac_rfl

/-- The data lanes of an encoded word are the data (R4). -/
theorem dataLanes_encode (d : Data) (p : Bool) : dataLanes (encode d p) = d := by
  apply BitVec.eq_of_getLsbD_eq
  intro i hi
  simp only [dataLanes, encode, BitVec.getLsbD_setWidth, hi, decide_true, Bool.true_and]
  rw [BitVec.getLsbD_append]
  simp [hi]

/-- The check lanes of an encoded word are its check field (R4, R5). -/
theorem checkLanes_encode (d : Data) (p : Bool) : checkLanes (encode d p) = checkField d p := by
  apply BitVec.eq_of_getLsbD_eq
  intro i hi
  simp only [checkLanes, encode, BitVec.getLsbD_extractLsb', hi, decide_true, Bool.true_and]
  rw [BitVec.getLsbD_append]
  simp

/-- The syndrome of a word as written: 0 when clean, P when poisoned (R4 to R6). -/
theorem syndrome_encode (d : Data) (p : Bool) : syndrome (encode d p) = if p then poisonMark else 0 := by
  simp only [syndrome, dataLanes_encode, checkLanes_encode, checkField]
  rw [show ∀ x m y : Byte, x ^^^ (x ^^^ m ^^^ y) ^^^ m = (x ^^^ x) ^^^ (m ^^^ m) ^^^ y from fun x m y => by ac_rfl]
  cases p <;> simp

end Sys2Proof.Machine
end

