-- ==== Sys2Proof/Laws/State.lean ====
section
/-! SUPPORT. One lemma for each field and each update of the state: what the update puts there, or that it leaves the field
alone. All hold by definition, so no proof need unfold a record update. -/

namespace Sys2Proof.Machine

set_option Elab.async false

variable (s : State)

/-! ## State.setWord -/

@[simp] theorem State.setWord_params (a : ArrayNo) (i : PhysIndex) (w : Stored) :
    (s.setWord a i w).params = s.params := rfl
@[simp] theorem State.setWord_mem (a : ArrayNo) (i : PhysIndex) (w : Stored) :
    (s.setWord a i w).mem = memPut (memKey a i) w s.mem := rfl
@[simp] theorem State.setWord_epoch (a : ArrayNo) (i : PhysIndex) (w : Stored) :
    (s.setWord a i w).epoch = s.epoch := rfl
@[simp] theorem State.setWord_turns (a : ArrayNo) (i : PhysIndex) (w : Stored) :
    (s.setWord a i w).turns = s.turns := rfl
@[simp] theorem State.setWord_map (a : ArrayNo) (i : PhysIndex) (w : Stored) : (s.setWord a i w).map = s.map := rfl
@[simp] theorem State.setWord_subs (a : ArrayNo) (i : PhysIndex) (w : Stored) : (s.setWord a i w).subs = s.subs := rfl
@[simp] theorem State.setWord_steer (a : ArrayNo) (i : PhysIndex) (w : Stored) :
    (s.setWord a i w).steer = s.steer := rfl
@[simp] theorem State.setWord_scrub (a : ArrayNo) (i : PhysIndex) (w : Stored) :
    (s.setWord a i w).scrub = s.scrub := rfl
@[simp] theorem State.setWord_queue (a : ArrayNo) (i : PhysIndex) (w : Stored) :
    (s.setWord a i w).queue = s.queue := rfl
@[simp] theorem State.setWord_port (a : ArrayNo) (i : PhysIndex) (w : Stored) : (s.setWord a i w).port = s.port := rfl
@[simp] theorem State.setWord_path (a : ArrayNo) (i : PhysIndex) (w : Stored) : (s.setWord a i w).path = s.path := rfl
@[simp] theorem State.setWord_alert (a : ArrayNo) (i : PhysIndex) (w : Stored) :
    (s.setWord a i w).alert = s.alert := rfl
@[simp] theorem State.setWord_link (a : ArrayNo) (i : PhysIndex) (w : Stored) : (s.setWord a i w).link = s.link := rfl
@[simp] theorem State.setWord_busReset (a : ArrayNo) (i : PhysIndex) (w : Stored) :
    (s.setWord a i w).busReset = s.busReset := rfl
@[simp] theorem State.setWord_supplyWarning (a : ArrayNo) (i : PhysIndex) (w : Stored) :
    (s.setWord a i w).supplyWarning = s.supplyWarning := rfl
@[simp] theorem State.setWord_pending (a : ArrayNo) (i : PhysIndex) (w : Stored) :
    (s.setWord a i w).pending = s.pending := rfl

/-! ## State.setTurn -/

@[simp] theorem State.setTurn_params (a : ArrayNo) (t : Option Turn) : (s.setTurn a t).params = s.params := rfl
@[simp] theorem State.setTurn_mem (a : ArrayNo) (t : Option Turn) : (s.setTurn a t).mem = s.mem := rfl
@[simp] theorem State.setTurn_epoch (a : ArrayNo) (t : Option Turn) : (s.setTurn a t).epoch = s.epoch := rfl
@[simp] theorem State.setTurn_turns (a : ArrayNo) (t : Option Turn) :
    (s.setTurn a t).turns = s.turns.set a.val t a.isLt := rfl
@[simp] theorem State.setTurn_map (a : ArrayNo) (t : Option Turn) : (s.setTurn a t).map = s.map := rfl
@[simp] theorem State.setTurn_subs (a : ArrayNo) (t : Option Turn) : (s.setTurn a t).subs = s.subs := rfl
@[simp] theorem State.setTurn_steer (a : ArrayNo) (t : Option Turn) : (s.setTurn a t).steer = s.steer := rfl
@[simp] theorem State.setTurn_scrub (a : ArrayNo) (t : Option Turn) : (s.setTurn a t).scrub = s.scrub := rfl
@[simp] theorem State.setTurn_queue (a : ArrayNo) (t : Option Turn) : (s.setTurn a t).queue = s.queue := rfl
@[simp] theorem State.setTurn_port (a : ArrayNo) (t : Option Turn) : (s.setTurn a t).port = s.port := rfl
@[simp] theorem State.setTurn_path (a : ArrayNo) (t : Option Turn) : (s.setTurn a t).path = s.path := rfl
@[simp] theorem State.setTurn_alert (a : ArrayNo) (t : Option Turn) : (s.setTurn a t).alert = s.alert := rfl
@[simp] theorem State.setTurn_link (a : ArrayNo) (t : Option Turn) : (s.setTurn a t).link = s.link := rfl
@[simp] theorem State.setTurn_busReset (a : ArrayNo) (t : Option Turn) : (s.setTurn a t).busReset = s.busReset := rfl
@[simp] theorem State.setTurn_supplyWarning (a : ArrayNo) (t : Option Turn) :
    (s.setTurn a t).supplyWarning = s.supplyWarning := rfl
@[simp] theorem State.setTurn_pending (a : ArrayNo) (t : Option Turn) : (s.setTurn a t).pending = s.pending := rfl

/-! ## answer -/

@[simp] theorem answer_params (x : PortAnswer) : (answer x s).params = s.params := rfl
@[simp] theorem answer_mem (x : PortAnswer) : (answer x s).mem = s.mem := rfl
@[simp] theorem answer_epoch (x : PortAnswer) : (answer x s).epoch = s.epoch := rfl
@[simp] theorem answer_turns (x : PortAnswer) : (answer x s).turns = s.turns := rfl
@[simp] theorem answer_map (x : PortAnswer) : (answer x s).map = s.map := rfl
@[simp] theorem answer_subs (x : PortAnswer) : (answer x s).subs = s.subs := rfl
@[simp] theorem answer_steer (x : PortAnswer) : (answer x s).steer = s.steer := rfl
@[simp] theorem answer_scrub (x : PortAnswer) : (answer x s).scrub = s.scrub := rfl
@[simp] theorem answer_queue (x : PortAnswer) : (answer x s).queue = s.queue := rfl
@[simp] theorem answer_port (x : PortAnswer) :
    (answer x s).port = { s.port with answers := s.port.answers ++ [x] } := rfl
@[simp] theorem answer_path (x : PortAnswer) : (answer x s).path = s.path := rfl
@[simp] theorem answer_alert (x : PortAnswer) : (answer x s).alert = s.alert := rfl
@[simp] theorem answer_link (x : PortAnswer) : (answer x s).link = s.link := rfl
@[simp] theorem answer_busReset (x : PortAnswer) : (answer x s).busReset = s.busReset := rfl
@[simp] theorem answer_supplyWarning (x : PortAnswer) : (answer x s).supplyWarning = s.supplyWarning := rfl
@[simp] theorem answer_pending (x : PortAnswer) : (answer x s).pending = s.pending := rfl

/-! ## respond -/

@[simp] theorem respond_params (r : Response) : (respond r s).params = s.params := rfl
@[simp] theorem respond_mem (r : Response) : (respond r s).mem = s.mem := rfl
@[simp] theorem respond_epoch (r : Response) : (respond r s).epoch = s.epoch := rfl
@[simp] theorem respond_turns (r : Response) : (respond r s).turns = s.turns := rfl
@[simp] theorem respond_map (r : Response) : (respond r s).map = s.map := rfl
@[simp] theorem respond_subs (r : Response) : (respond r s).subs = s.subs := rfl
@[simp] theorem respond_steer (r : Response) : (respond r s).steer = s.steer := rfl
@[simp] theorem respond_scrub (r : Response) : (respond r s).scrub = s.scrub := rfl
@[simp] theorem respond_queue (r : Response) : (respond r s).queue = s.queue := rfl
@[simp] theorem respond_port (r : Response) : (respond r s).port = s.port := rfl
@[simp] theorem respond_path (r : Response) : (respond r s).path = s.path := rfl
@[simp] theorem respond_alert (r : Response) : (respond r s).alert = s.alert := rfl
@[simp] theorem respond_link (r : Response) :
    (respond r s).link = { s.link with responses := s.link.responses ++ [r] } := rfl
@[simp] theorem respond_busReset (r : Response) : (respond r s).busReset = s.busReset := rfl
@[simp] theorem respond_supplyWarning (r : Response) : (respond r s).supplyWarning = s.supplyWarning := rfl
@[simp] theorem respond_pending (r : Response) : (respond r s).pending = s.pending := rfl

/-! ## reply -/

@[simp] theorem reply_params (q : Byte) (st : LinkStatus) (b : List Byte) : (reply q st b s).params = s.params := rfl
@[simp] theorem reply_mem (q : Byte) (st : LinkStatus) (b : List Byte) : (reply q st b s).mem = s.mem := rfl
@[simp] theorem reply_epoch (q : Byte) (st : LinkStatus) (b : List Byte) : (reply q st b s).epoch = s.epoch := rfl
@[simp] theorem reply_turns (q : Byte) (st : LinkStatus) (b : List Byte) : (reply q st b s).turns = s.turns := rfl
@[simp] theorem reply_map (q : Byte) (st : LinkStatus) (b : List Byte) : (reply q st b s).map = s.map := rfl
@[simp] theorem reply_subs (q : Byte) (st : LinkStatus) (b : List Byte) : (reply q st b s).subs = s.subs := rfl
@[simp] theorem reply_steer (q : Byte) (st : LinkStatus) (b : List Byte) : (reply q st b s).steer = s.steer := rfl
@[simp] theorem reply_scrub (q : Byte) (st : LinkStatus) (b : List Byte) : (reply q st b s).scrub = s.scrub := rfl
@[simp] theorem reply_queue (q : Byte) (st : LinkStatus) (b : List Byte) : (reply q st b s).queue = s.queue := rfl
@[simp] theorem reply_port (q : Byte) (st : LinkStatus) (b : List Byte) : (reply q st b s).port = s.port := rfl
@[simp] theorem reply_path (q : Byte) (st : LinkStatus) (b : List Byte) : (reply q st b s).path = s.path := rfl
@[simp] theorem reply_alert (q : Byte) (st : LinkStatus) (b : List Byte) : (reply q st b s).alert = s.alert := rfl
@[simp] theorem reply_link (q : Byte) (st : LinkStatus) (b : List Byte) :
    (reply q st b s).link = { s.link with responses := s.link.responses ++ [⟨q, st, b⟩], store := some ⟨q, st, b⟩ } := rfl
@[simp] theorem reply_busReset (q : Byte) (st : LinkStatus) (b : List Byte) :
    (reply q st b s).busReset = s.busReset := rfl
@[simp] theorem reply_supplyWarning (q : Byte) (st : LinkStatus) (b : List Byte) :
    (reply q st b s).supplyWarning = s.supplyWarning := rfl
@[simp] theorem reply_pending (q : Byte) (st : LinkStatus) (b : List Byte) :
    (reply q st b s).pending = s.pending := rfl

/-! ## unlock -/

@[simp] theorem unlock_params : (unlock s).params = s.params := rfl
@[simp] theorem unlock_mem : (unlock s).mem = s.mem := rfl
@[simp] theorem unlock_epoch : (unlock s).epoch = s.epoch := rfl
@[simp] theorem unlock_turns : (unlock s).turns = s.turns := rfl
@[simp] theorem unlock_map : (unlock s).map = s.map := rfl
@[simp] theorem unlock_subs : (unlock s).subs = s.subs := rfl
@[simp] theorem unlock_steer : (unlock s).steer = s.steer := rfl
@[simp] theorem unlock_scrub : (unlock s).scrub = s.scrub := rfl
@[simp] theorem unlock_queue : (unlock s).queue = s.queue := rfl
@[simp] theorem unlock_port : (unlock s).port = s.port := rfl
@[simp] theorem unlock_path : (unlock s).path = s.path := rfl
@[simp] theorem unlock_alert : (unlock s).alert = s.alert := rfl
@[simp] theorem unlock_link : (unlock s).link = { s.link with lock := none } := rfl
@[simp] theorem unlock_busReset : (unlock s).busReset = s.busReset := rfl
@[simp] theorem unlock_supplyWarning : (unlock s).supplyWarning = s.supplyWarning := rfl
@[simp] theorem unlock_pending : (unlock s).pending = s.pending := rfl

/-! ## moveTo -/

@[simp] theorem moveTo_params (p : PathState) : (moveTo p s).params = s.params := rfl
@[simp] theorem moveTo_mem (p : PathState) : (moveTo p s).mem = s.mem := rfl
@[simp] theorem moveTo_epoch (p : PathState) : (moveTo p s).epoch = s.epoch := rfl
@[simp] theorem moveTo_turns (p : PathState) : (moveTo p s).turns = s.turns := rfl
@[simp] theorem moveTo_map (p : PathState) : (moveTo p s).map = s.map := rfl
@[simp] theorem moveTo_subs (p : PathState) : (moveTo p s).subs = s.subs := rfl
@[simp] theorem moveTo_steer (p : PathState) : (moveTo p s).steer = s.steer := rfl
@[simp] theorem moveTo_scrub (p : PathState) : (moveTo p s).scrub = s.scrub := rfl
@[simp] theorem moveTo_queue (p : PathState) : (moveTo p s).queue = s.queue := rfl
@[simp] theorem moveTo_port (p : PathState) : (moveTo p s).port = s.port := rfl
@[simp] theorem moveTo_path (p : PathState) :
    (moveTo p s).path = { s.path with path := p, resume := resumeAfter p s.path.resume } := rfl
@[simp] theorem moveTo_alert (p : PathState) : (moveTo p s).alert = s.alert := rfl
@[simp] theorem moveTo_link (p : PathState) : (moveTo p s).link = s.link := rfl
@[simp] theorem moveTo_busReset (p : PathState) : (moveTo p s).busReset = s.busReset := rfl
@[simp] theorem moveTo_supplyWarning (p : PathState) : (moveTo p s).supplyWarning = s.supplyWarning := rfl
@[simp] theorem moveTo_pending (p : PathState) : (moveTo p s).pending = s.pending := rfl

/-! ## setQuietOutcome -/

@[simp] theorem setQuietOutcome_params (q : QuietOutcome) : (setQuietOutcome q s).params = s.params := rfl
@[simp] theorem setQuietOutcome_mem (q : QuietOutcome) : (setQuietOutcome q s).mem = s.mem := rfl
@[simp] theorem setQuietOutcome_epoch (q : QuietOutcome) : (setQuietOutcome q s).epoch = s.epoch := rfl
@[simp] theorem setQuietOutcome_turns (q : QuietOutcome) : (setQuietOutcome q s).turns = s.turns := rfl
@[simp] theorem setQuietOutcome_map (q : QuietOutcome) : (setQuietOutcome q s).map = s.map := rfl
@[simp] theorem setQuietOutcome_subs (q : QuietOutcome) : (setQuietOutcome q s).subs = s.subs := rfl
@[simp] theorem setQuietOutcome_steer (q : QuietOutcome) : (setQuietOutcome q s).steer = s.steer := rfl
@[simp] theorem setQuietOutcome_scrub (q : QuietOutcome) : (setQuietOutcome q s).scrub = s.scrub := rfl
@[simp] theorem setQuietOutcome_queue (q : QuietOutcome) : (setQuietOutcome q s).queue = s.queue := rfl
@[simp] theorem setQuietOutcome_port (q : QuietOutcome) : (setQuietOutcome q s).port = s.port := rfl
@[simp] theorem setQuietOutcome_path (q : QuietOutcome) :
    (setQuietOutcome q s).path = { s.path with lastQuiet := q } := rfl
@[simp] theorem setQuietOutcome_alert (q : QuietOutcome) : (setQuietOutcome q s).alert = s.alert := rfl
@[simp] theorem setQuietOutcome_link (q : QuietOutcome) : (setQuietOutcome q s).link = s.link := rfl
@[simp] theorem setQuietOutcome_busReset (q : QuietOutcome) : (setQuietOutcome q s).busReset = s.busReset := rfl
@[simp] theorem setQuietOutcome_supplyWarning (q : QuietOutcome) :
    (setQuietOutcome q s).supplyWarning = s.supplyWarning := rfl
@[simp] theorem setQuietOutcome_pending (q : QuietOutcome) : (setQuietOutcome q s).pending = s.pending := rfl

/-! ## beginWake -/

@[simp] theorem beginWake_params : (beginWake s).params = s.params := rfl
@[simp] theorem beginWake_mem : (beginWake s).mem = s.mem := rfl
@[simp] theorem beginWake_epoch : (beginWake s).epoch = s.epoch := rfl
@[simp] theorem beginWake_turns : (beginWake s).turns = s.turns := rfl
@[simp] theorem beginWake_map : (beginWake s).map = s.map := rfl
@[simp] theorem beginWake_subs : (beginWake s).subs = s.subs := rfl
@[simp] theorem beginWake_steer : (beginWake s).steer = s.steer := rfl
@[simp] theorem beginWake_scrub : (beginWake s).scrub = s.scrub := rfl
@[simp] theorem beginWake_queue : (beginWake s).queue = s.queue := rfl
@[simp] theorem beginWake_port : (beginWake s).port = s.port := rfl
@[simp] theorem beginWake_path : (beginWake s).path = { s.path with path := .waking } := rfl
@[simp] theorem beginWake_alert : (beginWake s).alert = s.alert := rfl
@[simp] theorem beginWake_link : (beginWake s).link = s.link := rfl
@[simp] theorem beginWake_busReset : (beginWake s).busReset = s.busReset := rfl
@[simp] theorem beginWake_supplyWarning : (beginWake s).supplyWarning = s.supplyWarning := rfl
@[simp] theorem beginWake_pending : (beginWake s).pending = s.pending := rfl

/-! ## recordCause -/

@[simp] theorem recordCause_params (c : ResetCause) : (recordCause c s).params = s.params := rfl
@[simp] theorem recordCause_mem (c : ResetCause) : (recordCause c s).mem = s.mem := rfl
@[simp] theorem recordCause_epoch (c : ResetCause) : (recordCause c s).epoch = s.epoch := rfl
@[simp] theorem recordCause_turns (c : ResetCause) : (recordCause c s).turns = s.turns := rfl
@[simp] theorem recordCause_map (c : ResetCause) : (recordCause c s).map = s.map := rfl
@[simp] theorem recordCause_subs (c : ResetCause) : (recordCause c s).subs = s.subs := rfl
@[simp] theorem recordCause_steer (c : ResetCause) : (recordCause c s).steer = s.steer := rfl
@[simp] theorem recordCause_scrub (c : ResetCause) : (recordCause c s).scrub = s.scrub := rfl
@[simp] theorem recordCause_queue (c : ResetCause) : (recordCause c s).queue = s.queue := rfl
@[simp] theorem recordCause_port (c : ResetCause) : (recordCause c s).port = s.port := rfl
@[simp] theorem recordCause_path (c : ResetCause) :
    (recordCause c s).path = { s.path with causes := s.path.causes.record c } := rfl
@[simp] theorem recordCause_alert (c : ResetCause) : (recordCause c s).alert = s.alert := rfl
@[simp] theorem recordCause_link (c : ResetCause) : (recordCause c s).link = s.link := rfl
@[simp] theorem recordCause_busReset (c : ResetCause) : (recordCause c s).busReset = s.busReset := rfl
@[simp] theorem recordCause_supplyWarning (c : ResetCause) : (recordCause c s).supplyWarning = s.supplyWarning := rfl
@[simp] theorem recordCause_pending (c : ResetCause) : (recordCause c s).pending = s.pending := rfl

/-! ## resumeSetup -/

@[simp] theorem resumeSetup_params : (resumeSetup s).params = s.params := rfl
@[simp] theorem resumeSetup_mem : (resumeSetup s).mem = s.mem := rfl
@[simp] theorem resumeSetup_epoch : (resumeSetup s).epoch = s.epoch := rfl
@[simp] theorem resumeSetup_turns : (resumeSetup s).turns = s.turns := rfl
@[simp] theorem resumeSetup_map : (resumeSetup s).map = s.map := rfl
@[simp] theorem resumeSetup_subs : (resumeSetup s).subs = s.subs := rfl
@[simp] theorem resumeSetup_steer : (resumeSetup s).steer = s.steer := rfl
@[simp] theorem resumeSetup_scrub : (resumeSetup s).scrub = s.scrub := rfl
@[simp] theorem resumeSetup_queue : (resumeSetup s).queue = s.queue := rfl
@[simp] theorem resumeSetup_port : (resumeSetup s).port = s.port := rfl
@[simp] theorem resumeSetup_path : (resumeSetup s).path = { s.path with resume := .setup } := rfl
@[simp] theorem resumeSetup_alert : (resumeSetup s).alert = s.alert := rfl
@[simp] theorem resumeSetup_link : (resumeSetup s).link = s.link := rfl
@[simp] theorem resumeSetup_busReset : (resumeSetup s).busReset = s.busReset := rfl
@[simp] theorem resumeSetup_supplyWarning : (resumeSetup s).supplyWarning = s.supplyWarning := rfl
@[simp] theorem resumeSetup_pending : (resumeSetup s).pending = s.pending := rfl

/-! ## setSpare -/

@[simp] theorem setSpare_params (a : ArrayNo) (t : SpareNo) (x : SpareStatus) :
    (setSpare a t x s).params = s.params := rfl
@[simp] theorem setSpare_mem (a : ArrayNo) (t : SpareNo) (x : SpareStatus) : (setSpare a t x s).mem = s.mem := rfl
@[simp] theorem setSpare_epoch (a : ArrayNo) (t : SpareNo) (x : SpareStatus) :
    (setSpare a t x s).epoch = s.epoch := rfl
@[simp] theorem setSpare_turns (a : ArrayNo) (t : SpareNo) (x : SpareStatus) :
    (setSpare a t x s).turns = s.turns := rfl
@[simp] theorem setSpare_map (a : ArrayNo) (t : SpareNo) (x : SpareStatus) : (setSpare a t x s).map = s.map := rfl
@[simp] theorem setSpare_subs (a : ArrayNo) (t : SpareNo) (x : SpareStatus) :
    (setSpare a t x s).subs = { s.subs with spares := s.subs.spares.set a.val ((s.subs.spares.get a).set t.val x t.isLt) a.isLt } := rfl
@[simp] theorem setSpare_steer (a : ArrayNo) (t : SpareNo) (x : SpareStatus) :
    (setSpare a t x s).steer = s.steer := rfl
@[simp] theorem setSpare_scrub (a : ArrayNo) (t : SpareNo) (x : SpareStatus) :
    (setSpare a t x s).scrub = s.scrub := rfl
@[simp] theorem setSpare_queue (a : ArrayNo) (t : SpareNo) (x : SpareStatus) :
    (setSpare a t x s).queue = s.queue := rfl
@[simp] theorem setSpare_port (a : ArrayNo) (t : SpareNo) (x : SpareStatus) : (setSpare a t x s).port = s.port := rfl
@[simp] theorem setSpare_path (a : ArrayNo) (t : SpareNo) (x : SpareStatus) : (setSpare a t x s).path = s.path := rfl
@[simp] theorem setSpare_alert (a : ArrayNo) (t : SpareNo) (x : SpareStatus) :
    (setSpare a t x s).alert = s.alert := rfl
@[simp] theorem setSpare_link (a : ArrayNo) (t : SpareNo) (x : SpareStatus) : (setSpare a t x s).link = s.link := rfl
@[simp] theorem setSpare_busReset (a : ArrayNo) (t : SpareNo) (x : SpareStatus) :
    (setSpare a t x s).busReset = s.busReset := rfl
@[simp] theorem setSpare_supplyWarning (a : ArrayNo) (t : SpareNo) (x : SpareStatus) :
    (setSpare a t x s).supplyWarning = s.supplyWarning := rfl
@[simp] theorem setSpare_pending (a : ArrayNo) (t : SpareNo) (x : SpareStatus) :
    (setSpare a t x s).pending = s.pending := rfl

/-! ## setEntry -/

@[simp] theorem setEntry_params (i : Fin 32) (e : Option SubEntry) : (setEntry i e s).params = s.params := rfl
@[simp] theorem setEntry_mem (i : Fin 32) (e : Option SubEntry) : (setEntry i e s).mem = s.mem := rfl
@[simp] theorem setEntry_epoch (i : Fin 32) (e : Option SubEntry) : (setEntry i e s).epoch = s.epoch := rfl
@[simp] theorem setEntry_turns (i : Fin 32) (e : Option SubEntry) : (setEntry i e s).turns = s.turns := rfl
@[simp] theorem setEntry_map (i : Fin 32) (e : Option SubEntry) : (setEntry i e s).map = s.map := rfl
@[simp] theorem setEntry_subs (i : Fin 32) (e : Option SubEntry) :
    (setEntry i e s).subs = { s.subs with table := s.subs.table.set i.val e i.isLt } := rfl
@[simp] theorem setEntry_steer (i : Fin 32) (e : Option SubEntry) : (setEntry i e s).steer = s.steer := rfl
@[simp] theorem setEntry_scrub (i : Fin 32) (e : Option SubEntry) : (setEntry i e s).scrub = s.scrub := rfl
@[simp] theorem setEntry_queue (i : Fin 32) (e : Option SubEntry) : (setEntry i e s).queue = s.queue := rfl
@[simp] theorem setEntry_port (i : Fin 32) (e : Option SubEntry) : (setEntry i e s).port = s.port := rfl
@[simp] theorem setEntry_path (i : Fin 32) (e : Option SubEntry) : (setEntry i e s).path = s.path := rfl
@[simp] theorem setEntry_alert (i : Fin 32) (e : Option SubEntry) : (setEntry i e s).alert = s.alert := rfl
@[simp] theorem setEntry_link (i : Fin 32) (e : Option SubEntry) : (setEntry i e s).link = s.link := rfl
@[simp] theorem setEntry_busReset (i : Fin 32) (e : Option SubEntry) : (setEntry i e s).busReset = s.busReset := rfl
@[simp] theorem setEntry_supplyWarning (i : Fin 32) (e : Option SubEntry) :
    (setEntry i e s).supplyWarning = s.supplyWarning := rfl
@[simp] theorem setEntry_pending (i : Fin 32) (e : Option SubEntry) : (setEntry i e s).pending = s.pending := rfl

/-! ## setSteer -/

@[simp] theorem setSteer_params (a : ArrayNo) (r : SteerRecord) : (setSteer a r s).params = s.params := rfl
@[simp] theorem setSteer_mem (a : ArrayNo) (r : SteerRecord) : (setSteer a r s).mem = s.mem := rfl
@[simp] theorem setSteer_epoch (a : ArrayNo) (r : SteerRecord) : (setSteer a r s).epoch = s.epoch := rfl
@[simp] theorem setSteer_turns (a : ArrayNo) (r : SteerRecord) : (setSteer a r s).turns = s.turns := rfl
@[simp] theorem setSteer_map (a : ArrayNo) (r : SteerRecord) : (setSteer a r s).map = s.map := rfl
@[simp] theorem setSteer_subs (a : ArrayNo) (r : SteerRecord) : (setSteer a r s).subs = s.subs := rfl
@[simp] theorem setSteer_steer (a : ArrayNo) (r : SteerRecord) :
    (setSteer a r s).steer = s.steer.set a.val r a.isLt := rfl
@[simp] theorem setSteer_scrub (a : ArrayNo) (r : SteerRecord) : (setSteer a r s).scrub = s.scrub := rfl
@[simp] theorem setSteer_queue (a : ArrayNo) (r : SteerRecord) : (setSteer a r s).queue = s.queue := rfl
@[simp] theorem setSteer_port (a : ArrayNo) (r : SteerRecord) : (setSteer a r s).port = s.port := rfl
@[simp] theorem setSteer_path (a : ArrayNo) (r : SteerRecord) : (setSteer a r s).path = s.path := rfl
@[simp] theorem setSteer_alert (a : ArrayNo) (r : SteerRecord) : (setSteer a r s).alert = s.alert := rfl
@[simp] theorem setSteer_link (a : ArrayNo) (r : SteerRecord) : (setSteer a r s).link = s.link := rfl
@[simp] theorem setSteer_busReset (a : ArrayNo) (r : SteerRecord) : (setSteer a r s).busReset = s.busReset := rfl
@[simp] theorem setSteer_supplyWarning (a : ArrayNo) (r : SteerRecord) :
    (setSteer a r s).supplyWarning = s.supplyWarning := rfl
@[simp] theorem setSteer_pending (a : ArrayNo) (r : SteerRecord) : (setSteer a r s).pending = s.pending := rfl

/-! ## setCursor -/

@[simp] theorem setCursor_params (p : ScrubPos) : (setCursor p s).params = s.params := rfl
@[simp] theorem setCursor_mem (p : ScrubPos) : (setCursor p s).mem = s.mem := rfl
@[simp] theorem setCursor_epoch (p : ScrubPos) : (setCursor p s).epoch = s.epoch := rfl
@[simp] theorem setCursor_turns (p : ScrubPos) : (setCursor p s).turns = s.turns := rfl
@[simp] theorem setCursor_map (p : ScrubPos) : (setCursor p s).map = s.map := rfl
@[simp] theorem setCursor_subs (p : ScrubPos) : (setCursor p s).subs = s.subs := rfl
@[simp] theorem setCursor_steer (p : ScrubPos) : (setCursor p s).steer = s.steer := rfl
@[simp] theorem setCursor_scrub (p : ScrubPos) : (setCursor p s).scrub = { s.scrub with cursor := p } := rfl
@[simp] theorem setCursor_queue (p : ScrubPos) : (setCursor p s).queue = s.queue := rfl
@[simp] theorem setCursor_port (p : ScrubPos) : (setCursor p s).port = s.port := rfl
@[simp] theorem setCursor_path (p : ScrubPos) : (setCursor p s).path = s.path := rfl
@[simp] theorem setCursor_alert (p : ScrubPos) : (setCursor p s).alert = s.alert := rfl
@[simp] theorem setCursor_link (p : ScrubPos) : (setCursor p s).link = s.link := rfl
@[simp] theorem setCursor_busReset (p : ScrubPos) : (setCursor p s).busReset = s.busReset := rfl
@[simp] theorem setCursor_supplyWarning (p : ScrubPos) : (setCursor p s).supplyWarning = s.supplyWarning := rfl
@[simp] theorem setCursor_pending (p : ScrubPos) : (setCursor p s).pending = s.pending := rfl

/-! ## startFill -/

@[simp] theorem startFill_params : (startFill s).params = s.params := rfl
@[simp] theorem startFill_mem : (startFill s).mem = s.mem := rfl
@[simp] theorem startFill_epoch : (startFill s).epoch = s.epoch := rfl
@[simp] theorem startFill_turns : (startFill s).turns = s.turns := rfl
@[simp] theorem startFill_map : (startFill s).map = s.map := rfl
@[simp] theorem startFill_subs : (startFill s).subs = s.subs := rfl
@[simp] theorem startFill_steer : (startFill s).steer = s.steer := rfl
@[simp] theorem startFill_scrub : (startFill s).scrub = { s.scrub with fill := some ⟨0, 0⟩ } := rfl
@[simp] theorem startFill_queue : (startFill s).queue = s.queue := rfl
@[simp] theorem startFill_port : (startFill s).port = s.port := rfl
@[simp] theorem startFill_path : (startFill s).path = s.path := rfl
@[simp] theorem startFill_alert : (startFill s).alert = s.alert := rfl
@[simp] theorem startFill_link : (startFill s).link = s.link := rfl
@[simp] theorem startFill_busReset : (startFill s).busReset = s.busReset := rfl
@[simp] theorem startFill_supplyWarning : (startFill s).supplyWarning = s.supplyWarning := rfl
@[simp] theorem startFill_pending : (startFill s).pending = s.pending := rfl

/-! ## purgeRow -/

@[simp] theorem purgeRow_params (a : ArrayNo) (row : Nat) : (purgeRow a row s).params = s.params := rfl
@[simp] theorem purgeRow_mem (a : ArrayNo) (row : Nat) : (purgeRow a row s).mem = s.mem := rfl
@[simp] theorem purgeRow_epoch (a : ArrayNo) (row : Nat) : (purgeRow a row s).epoch = s.epoch := rfl
@[simp] theorem purgeRow_turns (a : ArrayNo) (row : Nat) : (purgeRow a row s).turns = s.turns := rfl
@[simp] theorem purgeRow_map (a : ArrayNo) (row : Nat) :
    (purgeRow a row s).map = s.map.removeWhere (MapEntry.inRow a row) := rfl
@[simp] theorem purgeRow_subs (a : ArrayNo) (row : Nat) : (purgeRow a row s).subs = s.subs := rfl
@[simp] theorem purgeRow_steer (a : ArrayNo) (row : Nat) : (purgeRow a row s).steer = s.steer := rfl
@[simp] theorem purgeRow_scrub (a : ArrayNo) (row : Nat) : (purgeRow a row s).scrub = s.scrub := rfl
@[simp] theorem purgeRow_queue (a : ArrayNo) (row : Nat) : (purgeRow a row s).queue = s.queue := rfl
@[simp] theorem purgeRow_port (a : ArrayNo) (row : Nat) : (purgeRow a row s).port = s.port := rfl
@[simp] theorem purgeRow_path (a : ArrayNo) (row : Nat) : (purgeRow a row s).path = s.path := rfl
@[simp] theorem purgeRow_alert (a : ArrayNo) (row : Nat) : (purgeRow a row s).alert = s.alert := rfl
@[simp] theorem purgeRow_link (a : ArrayNo) (row : Nat) : (purgeRow a row s).link = s.link := rfl
@[simp] theorem purgeRow_busReset (a : ArrayNo) (row : Nat) : (purgeRow a row s).busReset = s.busReset := rfl
@[simp] theorem purgeRow_supplyWarning (a : ArrayNo) (row : Nat) :
    (purgeRow a row s).supplyWarning = s.supplyWarning := rfl
@[simp] theorem purgeRow_pending (a : ArrayNo) (row : Nat) : (purgeRow a row s).pending = s.pending := rfl

/-! ## purgeLane -/

@[simp] theorem purgeLane_params (a : ArrayNo) (k : CodedLane) : (purgeLane a k s).params = s.params := rfl
@[simp] theorem purgeLane_mem (a : ArrayNo) (k : CodedLane) : (purgeLane a k s).mem = s.mem := rfl
@[simp] theorem purgeLane_epoch (a : ArrayNo) (k : CodedLane) : (purgeLane a k s).epoch = s.epoch := rfl
@[simp] theorem purgeLane_turns (a : ArrayNo) (k : CodedLane) : (purgeLane a k s).turns = s.turns := rfl
@[simp] theorem purgeLane_map (a : ArrayNo) (k : CodedLane) :
    (purgeLane a k s).map = s.map.removeWhere (MapEntry.inLane a k.castSucc) := rfl
@[simp] theorem purgeLane_subs (a : ArrayNo) (k : CodedLane) : (purgeLane a k s).subs = s.subs := rfl
@[simp] theorem purgeLane_steer (a : ArrayNo) (k : CodedLane) : (purgeLane a k s).steer = s.steer := rfl
@[simp] theorem purgeLane_scrub (a : ArrayNo) (k : CodedLane) : (purgeLane a k s).scrub = s.scrub := rfl
@[simp] theorem purgeLane_queue (a : ArrayNo) (k : CodedLane) : (purgeLane a k s).queue = s.queue := rfl
@[simp] theorem purgeLane_port (a : ArrayNo) (k : CodedLane) : (purgeLane a k s).port = s.port := rfl
@[simp] theorem purgeLane_path (a : ArrayNo) (k : CodedLane) : (purgeLane a k s).path = s.path := rfl
@[simp] theorem purgeLane_alert (a : ArrayNo) (k : CodedLane) : (purgeLane a k s).alert = s.alert := rfl
@[simp] theorem purgeLane_link (a : ArrayNo) (k : CodedLane) : (purgeLane a k s).link = s.link := rfl
@[simp] theorem purgeLane_busReset (a : ArrayNo) (k : CodedLane) : (purgeLane a k s).busReset = s.busReset := rfl
@[simp] theorem purgeLane_supplyWarning (a : ArrayNo) (k : CodedLane) :
    (purgeLane a k s).supplyWarning = s.supplyWarning := rfl
@[simp] theorem purgeLane_pending (a : ArrayNo) (k : CodedLane) : (purgeLane a k s).pending = s.pending := rfl

/-! ## keepWaiting -/

@[simp] theorem keepWaiting_params (r : Request) : (keepWaiting r s).params = s.params := rfl
@[simp] theorem keepWaiting_mem (r : Request) : (keepWaiting r s).mem = s.mem := rfl
@[simp] theorem keepWaiting_epoch (r : Request) : (keepWaiting r s).epoch = s.epoch := rfl
@[simp] theorem keepWaiting_turns (r : Request) : (keepWaiting r s).turns = s.turns := rfl
@[simp] theorem keepWaiting_map (r : Request) : (keepWaiting r s).map = s.map := rfl
@[simp] theorem keepWaiting_subs (r : Request) : (keepWaiting r s).subs = s.subs := rfl
@[simp] theorem keepWaiting_steer (r : Request) : (keepWaiting r s).steer = s.steer := rfl
@[simp] theorem keepWaiting_scrub (r : Request) : (keepWaiting r s).scrub = s.scrub := rfl
@[simp] theorem keepWaiting_queue (r : Request) : (keepWaiting r s).queue = s.queue := rfl
@[simp] theorem keepWaiting_port (r : Request) : (keepWaiting r s).port = { s.port with waiting := some r } := rfl
@[simp] theorem keepWaiting_path (r : Request) : (keepWaiting r s).path = s.path := rfl
@[simp] theorem keepWaiting_alert (r : Request) : (keepWaiting r s).alert = s.alert := rfl
@[simp] theorem keepWaiting_link (r : Request) : (keepWaiting r s).link = s.link := rfl
@[simp] theorem keepWaiting_busReset (r : Request) : (keepWaiting r s).busReset = s.busReset := rfl
@[simp] theorem keepWaiting_supplyWarning (r : Request) : (keepWaiting r s).supplyWarning = s.supplyWarning := rfl
@[simp] theorem keepWaiting_pending (r : Request) : (keepWaiting r s).pending = s.pending := rfl

/-! ## takePlace -/

@[simp] theorem takePlace_params : (takePlace s).params = s.params := rfl
@[simp] theorem takePlace_mem : (takePlace s).mem = s.mem := rfl
@[simp] theorem takePlace_epoch : (takePlace s).epoch = s.epoch := rfl
@[simp] theorem takePlace_turns : (takePlace s).turns = s.turns := rfl
@[simp] theorem takePlace_map : (takePlace s).map = s.map := rfl
@[simp] theorem takePlace_subs : (takePlace s).subs = s.subs := rfl
@[simp] theorem takePlace_steer : (takePlace s).steer = s.steer := rfl
@[simp] theorem takePlace_scrub : (takePlace s).scrub = s.scrub := rfl
@[simp] theorem takePlace_queue : (takePlace s).queue = s.queue := rfl
@[simp] theorem takePlace_port : (takePlace s).port = { s.port with nextPlace := s.port.nextPlace + 1 } := rfl
@[simp] theorem takePlace_path : (takePlace s).path = s.path := rfl
@[simp] theorem takePlace_alert : (takePlace s).alert = s.alert := rfl
@[simp] theorem takePlace_link : (takePlace s).link = s.link := rfl
@[simp] theorem takePlace_busReset : (takePlace s).busReset = s.busReset := rfl
@[simp] theorem takePlace_supplyWarning : (takePlace s).supplyWarning = s.supplyWarning := rfl
@[simp] theorem takePlace_pending : (takePlace s).pending = s.pending := rfl

/-! ## discardReads -/

@[simp] theorem discardReads_params : (discardReads s).params = s.params := rfl
@[simp] theorem discardReads_mem : (discardReads s).mem = s.mem := rfl
@[simp] theorem discardReads_epoch : (discardReads s).epoch = s.epoch := rfl
@[simp] theorem discardReads_turns : (discardReads s).turns = s.turns := rfl
@[simp] theorem discardReads_map : (discardReads s).map = s.map := rfl
@[simp] theorem discardReads_subs : (discardReads s).subs = s.subs := rfl
@[simp] theorem discardReads_steer : (discardReads s).steer = s.steer := rfl
@[simp] theorem discardReads_scrub : (discardReads s).scrub = s.scrub := rfl
@[simp] theorem discardReads_queue : (discardReads s).queue = s.queue := rfl
@[simp] theorem discardReads_port : (discardReads s).port = { s.port with reads := [] } := rfl
@[simp] theorem discardReads_path : (discardReads s).path = s.path := rfl
@[simp] theorem discardReads_alert : (discardReads s).alert = s.alert := rfl
@[simp] theorem discardReads_link : (discardReads s).link = s.link := rfl
@[simp] theorem discardReads_busReset : (discardReads s).busReset = s.busReset := rfl
@[simp] theorem discardReads_supplyWarning : (discardReads s).supplyWarning = s.supplyWarning := rfl
@[simp] theorem discardReads_pending : (discardReads s).pending = s.pending := rfl

/-! ## discardWaiting -/

@[simp] theorem discardWaiting_params : (discardWaiting s).params = s.params := rfl
@[simp] theorem discardWaiting_mem : (discardWaiting s).mem = s.mem := rfl
@[simp] theorem discardWaiting_epoch : (discardWaiting s).epoch = s.epoch := rfl
@[simp] theorem discardWaiting_turns : (discardWaiting s).turns = s.turns := rfl
@[simp] theorem discardWaiting_map : (discardWaiting s).map = s.map := rfl
@[simp] theorem discardWaiting_subs : (discardWaiting s).subs = s.subs := rfl
@[simp] theorem discardWaiting_steer : (discardWaiting s).steer = s.steer := rfl
@[simp] theorem discardWaiting_scrub : (discardWaiting s).scrub = s.scrub := rfl
@[simp] theorem discardWaiting_queue : (discardWaiting s).queue = s.queue := rfl
@[simp] theorem discardWaiting_port : (discardWaiting s).port = { s.port with waiting := none } := rfl
@[simp] theorem discardWaiting_path : (discardWaiting s).path = s.path := rfl
@[simp] theorem discardWaiting_alert : (discardWaiting s).alert = s.alert := rfl
@[simp] theorem discardWaiting_link : (discardWaiting s).link = s.link := rfl
@[simp] theorem discardWaiting_busReset : (discardWaiting s).busReset = s.busReset := rfl
@[simp] theorem discardWaiting_supplyWarning : (discardWaiting s).supplyWarning = s.supplyWarning := rfl
@[simp] theorem discardWaiting_pending : (discardWaiting s).pending = s.pending := rfl

/-! ## drainResult -/

@[simp] theorem drainResult_params (w : BitVec 28) : (drainResult w s).params = s.params := rfl
@[simp] theorem drainResult_mem (w : BitVec 28) : (drainResult w s).mem = s.mem := rfl
@[simp] theorem drainResult_epoch (w : BitVec 28) : (drainResult w s).epoch = s.epoch := rfl
@[simp] theorem drainResult_turns (w : BitVec 28) : (drainResult w s).turns = s.turns := rfl
@[simp] theorem drainResult_map (w : BitVec 28) : (drainResult w s).map = s.map := rfl
@[simp] theorem drainResult_subs (w : BitVec 28) : (drainResult w s).subs = s.subs := rfl
@[simp] theorem drainResult_steer (w : BitVec 28) : (drainResult w s).steer = s.steer := rfl
@[simp] theorem drainResult_scrub (w : BitVec 28) : (drainResult w s).scrub = s.scrub := rfl
@[simp] theorem drainResult_queue (w : BitVec 28) : (drainResult w s).queue = queueRemove s.queue w := rfl
@[simp] theorem drainResult_port (w : BitVec 28) : (drainResult w s).port = s.port := rfl
@[simp] theorem drainResult_path (w : BitVec 28) : (drainResult w s).path = s.path := rfl
@[simp] theorem drainResult_alert (w : BitVec 28) : (drainResult w s).alert = s.alert := rfl
@[simp] theorem drainResult_link (w : BitVec 28) : (drainResult w s).link = s.link := rfl
@[simp] theorem drainResult_busReset (w : BitVec 28) : (drainResult w s).busReset = s.busReset := rfl
@[simp] theorem drainResult_supplyWarning (w : BitVec 28) : (drainResult w s).supplyWarning = s.supplyWarning := rfl
@[simp] theorem drainResult_pending (w : BitVec 28) : (drainResult w s).pending = s.pending := rfl

/-! ## setReceiver -/

@[simp] theorem setReceiver_params (r : Receiver) : (setReceiver r s).params = s.params := rfl
@[simp] theorem setReceiver_mem (r : Receiver) : (setReceiver r s).mem = s.mem := rfl
@[simp] theorem setReceiver_epoch (r : Receiver) : (setReceiver r s).epoch = s.epoch := rfl
@[simp] theorem setReceiver_turns (r : Receiver) : (setReceiver r s).turns = s.turns := rfl
@[simp] theorem setReceiver_map (r : Receiver) : (setReceiver r s).map = s.map := rfl
@[simp] theorem setReceiver_subs (r : Receiver) : (setReceiver r s).subs = s.subs := rfl
@[simp] theorem setReceiver_steer (r : Receiver) : (setReceiver r s).steer = s.steer := rfl
@[simp] theorem setReceiver_scrub (r : Receiver) : (setReceiver r s).scrub = s.scrub := rfl
@[simp] theorem setReceiver_queue (r : Receiver) : (setReceiver r s).queue = s.queue := rfl
@[simp] theorem setReceiver_port (r : Receiver) : (setReceiver r s).port = s.port := rfl
@[simp] theorem setReceiver_path (r : Receiver) : (setReceiver r s).path = s.path := rfl
@[simp] theorem setReceiver_alert (r : Receiver) : (setReceiver r s).alert = s.alert := rfl
@[simp] theorem setReceiver_link (r : Receiver) : (setReceiver r s).link = { s.link with receiver := r } := rfl
@[simp] theorem setReceiver_busReset (r : Receiver) : (setReceiver r s).busReset = s.busReset := rfl
@[simp] theorem setReceiver_supplyWarning (r : Receiver) : (setReceiver r s).supplyWarning = s.supplyWarning := rfl
@[simp] theorem setReceiver_pending (r : Receiver) : (setReceiver r s).pending = s.pending := rfl

/-! ## State.withReply -/

@[simp] theorem State.withReply_params (q : Byte) (st : LinkStatus) (b : List Byte) :
    (s.withReply q st b).params = s.params := rfl
@[simp] theorem State.withReply_mem (q : Byte) (st : LinkStatus) (b : List Byte) :
    (s.withReply q st b).mem = s.mem := rfl
@[simp] theorem State.withReply_epoch (q : Byte) (st : LinkStatus) (b : List Byte) :
    (s.withReply q st b).epoch = s.epoch := rfl
@[simp] theorem State.withReply_turns (q : Byte) (st : LinkStatus) (b : List Byte) :
    (s.withReply q st b).turns = s.turns := rfl
@[simp] theorem State.withReply_map (q : Byte) (st : LinkStatus) (b : List Byte) :
    (s.withReply q st b).map = s.map := rfl
@[simp] theorem State.withReply_subs (q : Byte) (st : LinkStatus) (b : List Byte) :
    (s.withReply q st b).subs = s.subs := rfl
@[simp] theorem State.withReply_steer (q : Byte) (st : LinkStatus) (b : List Byte) :
    (s.withReply q st b).steer = s.steer := rfl
@[simp] theorem State.withReply_scrub (q : Byte) (st : LinkStatus) (b : List Byte) :
    (s.withReply q st b).scrub = s.scrub := rfl
@[simp] theorem State.withReply_queue (q : Byte) (st : LinkStatus) (b : List Byte) :
    (s.withReply q st b).queue = s.queue := rfl
@[simp] theorem State.withReply_port (q : Byte) (st : LinkStatus) (b : List Byte) :
    (s.withReply q st b).port = s.port := rfl
@[simp] theorem State.withReply_path (q : Byte) (st : LinkStatus) (b : List Byte) :
    (s.withReply q st b).path = s.path := rfl
@[simp] theorem State.withReply_alert (q : Byte) (st : LinkStatus) (b : List Byte) :
    (s.withReply q st b).alert = s.alert := rfl
@[simp] theorem State.withReply_link (q : Byte) (st : LinkStatus) (b : List Byte) :
    (s.withReply q st b).link = { s.link with responses := s.link.responses ++ [⟨q, st, b⟩], store := some ⟨q, st, b⟩ } := rfl
@[simp] theorem State.withReply_busReset (q : Byte) (st : LinkStatus) (b : List Byte) :
    (s.withReply q st b).busReset = s.busReset := rfl
@[simp] theorem State.withReply_supplyWarning (q : Byte) (st : LinkStatus) (b : List Byte) :
    (s.withReply q st b).supplyWarning = s.supplyWarning := rfl
@[simp] theorem State.withReply_pending (q : Byte) (st : LinkStatus) (b : List Byte) :
    (s.withReply q st b).pending = s.pending := rfl

/-! ## State.withFlags -/

@[simp] theorem State.withFlags_params (m : BitVec 11) : (s.withFlags m).params = s.params := rfl
@[simp] theorem State.withFlags_mem (m : BitVec 11) : (s.withFlags m).mem = s.mem := rfl
@[simp] theorem State.withFlags_epoch (m : BitVec 11) : (s.withFlags m).epoch = s.epoch := rfl
@[simp] theorem State.withFlags_turns (m : BitVec 11) : (s.withFlags m).turns = s.turns := rfl
@[simp] theorem State.withFlags_map (m : BitVec 11) : (s.withFlags m).map = s.map := rfl
@[simp] theorem State.withFlags_subs (m : BitVec 11) : (s.withFlags m).subs = s.subs := rfl
@[simp] theorem State.withFlags_steer (m : BitVec 11) : (s.withFlags m).steer = s.steer := rfl
@[simp] theorem State.withFlags_scrub (m : BitVec 11) : (s.withFlags m).scrub = s.scrub := rfl
@[simp] theorem State.withFlags_queue (m : BitVec 11) : (s.withFlags m).queue = s.queue := rfl
@[simp] theorem State.withFlags_port (m : BitVec 11) : (s.withFlags m).port = s.port := rfl
@[simp] theorem State.withFlags_path (m : BitVec 11) : (s.withFlags m).path = s.path := rfl
@[simp] theorem State.withFlags_alert (m : BitVec 11) :
    (s.withFlags m).alert = { s.alert with flags := s.alert.flags ||| m } := rfl
@[simp] theorem State.withFlags_link (m : BitVec 11) : (s.withFlags m).link = s.link := rfl
@[simp] theorem State.withFlags_busReset (m : BitVec 11) : (s.withFlags m).busReset = s.busReset := rfl
@[simp] theorem State.withFlags_supplyWarning (m : BitVec 11) : (s.withFlags m).supplyWarning = s.supplyWarning := rfl
@[simp] theorem State.withFlags_pending (m : BitVec 11) : (s.withFlags m).pending = s.pending := rfl

/-! ## State.withPath -/

@[simp] theorem State.withPath_params (p : PathState) (r : ResumeState) : (s.withPath p r).params = s.params := rfl
@[simp] theorem State.withPath_mem (p : PathState) (r : ResumeState) : (s.withPath p r).mem = s.mem := rfl
@[simp] theorem State.withPath_epoch (p : PathState) (r : ResumeState) : (s.withPath p r).epoch = s.epoch := rfl
@[simp] theorem State.withPath_turns (p : PathState) (r : ResumeState) : (s.withPath p r).turns = s.turns := rfl
@[simp] theorem State.withPath_map (p : PathState) (r : ResumeState) : (s.withPath p r).map = s.map := rfl
@[simp] theorem State.withPath_subs (p : PathState) (r : ResumeState) : (s.withPath p r).subs = s.subs := rfl
@[simp] theorem State.withPath_steer (p : PathState) (r : ResumeState) : (s.withPath p r).steer = s.steer := rfl
@[simp] theorem State.withPath_scrub (p : PathState) (r : ResumeState) : (s.withPath p r).scrub = s.scrub := rfl
@[simp] theorem State.withPath_queue (p : PathState) (r : ResumeState) : (s.withPath p r).queue = s.queue := rfl
@[simp] theorem State.withPath_port (p : PathState) (r : ResumeState) : (s.withPath p r).port = s.port := rfl
@[simp] theorem State.withPath_path (p : PathState) (r : ResumeState) :
    (s.withPath p r).path = { s.path with path := p, resume := r } := rfl
@[simp] theorem State.withPath_alert (p : PathState) (r : ResumeState) : (s.withPath p r).alert = s.alert := rfl
@[simp] theorem State.withPath_link (p : PathState) (r : ResumeState) : (s.withPath p r).link = s.link := rfl
@[simp] theorem State.withPath_busReset (p : PathState) (r : ResumeState) :
    (s.withPath p r).busReset = s.busReset := rfl
@[simp] theorem State.withPath_supplyWarning (p : PathState) (r : ResumeState) :
    (s.withPath p r).supplyWarning = s.supplyWarning := rfl
@[simp] theorem State.withPath_pending (p : PathState) (r : ResumeState) : (s.withPath p r).pending = s.pending := rfl

end Sys2Proof.Machine
end

