-- ==== Sys2Proof/Laws/Tables.lean ====
section
/-! SUPPORT. The tables of the state, one place at a time: turns, steering records, spares, entries, slots; and the numbers
that link arguments name them by. -/

namespace Sys2Proof.Machine

/-- The place of a vector by its number. -/
theorem get_eq {α : Type} {n : Nat} (v : Vector α n) (i : Fin n) : v.get i = v[i.val] := rfl

/-- A vector after one place is set. -/
theorem get_set {α : Type} {n : Nat} (v : Vector α n) (i j : Fin n) (x : α) :
    (v.set i.val x i.isLt).get j = if j = i then x else v.get j := by
  simp only [get_eq, Vector.getElem_set, Fin.ext_iff, eq_comm]

@[simp] theorem turn_setTurn (a b : ArrayNo) (t : Option Turn) (s : State) :
    (s.setTurn a t).turn b = if b = a then t else s.turn b := get_set ..

@[simp] theorem steerOf_setSteer (a b : ArrayNo) (r : SteerRecord) (s : State) :
    (setSteer a r s).steerOf b = if b = a then r else s.steerOf b := get_set ..

@[simp] theorem table_setEntry (i j : Fin 32) (e : Option SubEntry) (s : State) :
    (setEntry i e s).subs.table.get j = if j = i then e else s.subs.table.get j := get_set ..

@[simp] theorem table_setSpare (a : ArrayNo) (t : SpareNo) (x : SpareStatus) (s : State) :
    (setSpare a t x s).subs.table = s.subs.table := rfl

@[simp] theorem spare_setEntry (i : Fin 32) (e : Option SubEntry) (a : ArrayNo) (t : SpareNo) (s : State) :
    (setEntry i e s).spare a t = s.spare a t := rfl

@[simp] theorem spare_setSpare (a b : ArrayNo) (t u : SpareNo) (x : SpareStatus) (s : State) :
    (setSpare a t x s).spare b u = if b = a ∧ u = t then x else s.spare b u := by
  simp only [State.spare, setSpare, get_set]
  split
  · subst_vars
    simp [get_set]
  · rename_i h
    simp [h]

@[simp] theorem slot_setSlot (m : FaultMap) (i j : Fin 64) (e : Option MapEntry) :
    (m.setSlot i e).slot j = if j = i then e else m.slot j := get_set ..

@[simp] theorem slot_touch (m : FaultMap) (i j : Fin 64) : (m.touch i).slot j = m.slot j := rfl

@[simp] theorem slot_removeSlot (m : FaultMap) (i j : Fin 64) :
    (m.removeSlot i).slot j = if j = i then none else m.slot j := get_set ..

/-- A slot after a purge or an aging removal. -/
theorem slot_removeWhere (m : FaultMap) (p : MapEntry → Bool) (i : Fin 64) :
    (m.removeWhere p).slot i = (m.slot i).filter (fun e => !p e) := by
  simp only [FaultMap.slot, FaultMap.removeWhere, get_eq, Vector.getElem_map]
  cases m.slots[i.val] with
  | none => rfl
  | some e => cases h : p e <;> simp [h, Option.filter]

/-- A slot after a condemnation has marked its entries (R63). -/
theorem slot_condemnWhere (m : FaultMap) (p : MapEntry → Bool) (i : Fin 64) :
    (m.condemnWhere p).slot i = (m.slot i).map (fun e => if p e then { e with state := .condemned } else e) := by
  simp only [FaultMap.slot, FaultMap.condemnWhere, get_eq, Vector.getElem_map]
  cases m.slots[i.val] with
  | none => rfl
  | some e => cases h : p e <;> simp [h]

/-- An entry found has the property and stands at its number. -/
theorem entryWhere_some {s : State} {p : SubEntry → Bool} {i : Fin 32} {e : SubEntry}
    (h : entryWhere s p = some (i, e)) : s.subs.table.get i = some e ∧ p e = true := by
  obtain ⟨j, _, hj⟩ := List.exists_of_findSome?_eq_some h
  split at hj
  · split at hj
    · simp only [Option.some.injEq, Prod.mk.injEq] at hj
      obtain ⟨rfl, rfl⟩ := hj
      exact ⟨‹_›, ‹_›⟩
    · cases hj
  · cases hj

/-- No entry found: none has the property. -/
theorem entryWhere_none {s : State} {p : SubEntry → Bool} (h : entryWhere s p = none) {i : Fin 32} {e : SubEntry}
    (hi : s.subs.table.get i = some e) : p e = false := by
  have := List.findSome?_eq_none_iff.1 h i (List.mem_finRange i)
  simpa [hi] using this

/-- A FREE entry found is FREE (R74). -/
theorem freeEntry_some {s : State} {i : Fin 32} (h : freeEntry s = some i) : s.subs.table.get i = none := by
  simpa using List.find?_some h

/-- A FREE spare found is FREE (R74). -/
theorem freeSpare_some {s : State} {a : ArrayNo} {t : SpareNo} (h : freeSpare s a = some t) : s.spare a t = .free := by
  simpa using List.find?_some h

theorem finOf?_some {k n : Nat} {i : Fin k} (h : i.val = n) : finOf? k n = some i := by
  subst h
  simp [finOf?]

theorem finOf?_none {k n : Nat} (h : k ≤ n) : finOf? k n = none := by
  simp only [finOf?, dif_neg (by omega : ¬n < k)]

theorem finOf?_eq_some {k n : Nat} {i : Fin k} (h : finOf? k n = some i) : i.val = n := by
  unfold finOf? at h
  split at h
  · cases h; rfl
  · cases h

/-- The array a link argument names when it is installed. -/
theorem installedArg_some {s : State} {n : ArrayNo} {m : Nat} (h : n.val = m) (hi : n.val < s.params.arrays.count) :
    installedArg s m = some n := by
  simp [installedArg, finOf?_some h, installed, hi]

/-- No array is named by a number at or above ARRAYS. -/
theorem installedArg_none {s : State} {m : Nat} (h : s.params.arrays.count ≤ m) : installedArg s m = none := by
  unfold installedArg
  split
  · rename_i a ha
    have := finOf?_eq_some ha
    simp only [installed, decide_eq_true_eq]
    rw [if_neg (by omega)]
  · rfl

/-- The word at a row and column, in numbers (R17). -/
theorem wordAt_val {row column : Nat} {w : PhysIndex} (h : wordAt row column = some w) :
    w.val = row * 1024 + column ∧ column < 1024 ∧ row < physRows := by
  unfold wordAt at h
  split at h
  · exact ⟨finOf?_eq_some h, by simp_all [columns], by simp_all⟩
  · cases h

end Sys2Proof.Machine
end

