-- ==== Sys2Proof/Laws/Ops.lean ====
section
/-! SUPPORT. What each shared operation can do, said once: alerts and wakes, replies, the path state, the weighing of
requests, the grant of a turn. -/

namespace Sys2Proof.Machine

/-! ## Alerts (R165, R173 to R175) -/

/-- A change of the Alert Unit sets it, and may begin a wake; nothing else changes. -/
theorem changeAlert_cases (u : AlertUnit) (s : State) :
    changeAlert u s = { s with alert := u } ∨
    (s.path.path = .quiet ∧ alertCondition s.alert = false ∧ alertCondition u = true ∧
      changeAlert u s = { s with alert := u, path := { s.path with path := .waking } }) := by
  unfold changeAlert
  split
  · rename_i h
    exact .inr ⟨h.1, h.2.1, h.2.2, rfl⟩
  · exact .inl rfl

@[simp] theorem changeAlert_alert (u : AlertUnit) (s : State) : (changeAlert u s).alert = u := by
  unfold changeAlert; split <;> rfl

/-- Outside QUIET a change of the Alert Unit changes nothing else (R175). -/
theorem changeAlert_outside_quiet {u : AlertUnit} {s : State} (h : s.path.path ≠ .quiet) :
    changeAlert u s = { s with alert := u } := by
  rw [changeAlert, if_neg (fun x => h x.1)]

@[simp] theorem raise_alert (f : AlertFlag) (s : State) :
    (raise f s).alert = { s.alert with flags := s.alert.flags ||| f.mask } := changeAlert_alert ..

/-- Outside QUIET a raise sets its flag and changes nothing else. -/
theorem raise_outside_quiet {f : AlertFlag} {s : State} (h : s.path.path ≠ .quiet) :
    raise f s = s.withFlags f.mask := changeAlert_outside_quiet h

/-- A raise changes the Alert Unit and, in QUIET, the path state; all else is as it was. -/
theorem raise_frame (f : AlertFlag) (s : State) :
    raise f s = { s with alert := (raise f s).alert, path := (raise f s).path } := by
  unfold raise changeAlert; split <;> rfl

@[simp] theorem raise_subs (f : AlertFlag) (s : State) : (raise f s).subs = s.subs := by rw [raise_frame]
@[simp] theorem raise_steer (f : AlertFlag) (s : State) : (raise f s).steer = s.steer := by rw [raise_frame]
@[simp] theorem raise_map (f : AlertFlag) (s : State) : (raise f s).map = s.map := by rw [raise_frame]
@[simp] theorem raise_mem (f : AlertFlag) (s : State) : (raise f s).mem = s.mem := by rw [raise_frame]
@[simp] theorem raise_turns (f : AlertFlag) (s : State) : (raise f s).turns = s.turns := by rw [raise_frame]
@[simp] theorem raise_scrub (f : AlertFlag) (s : State) : (raise f s).scrub = s.scrub := by rw [raise_frame]
@[simp] theorem raise_params (f : AlertFlag) (s : State) : (raise f s).params = s.params := by rw [raise_frame]
@[simp] theorem raise_port (f : AlertFlag) (s : State) : (raise f s).port = s.port := by rw [raise_frame]
@[simp] theorem raise_queue (f : AlertFlag) (s : State) : (raise f s).queue = s.queue := by rw [raise_frame]
@[simp] theorem raise_link (f : AlertFlag) (s : State) : (raise f s).link = s.link := by rw [raise_frame]

/-- A flag that is set stays set through a raise (R173). -/
theorem raise_keeps {f : AlertFlag} {s : State} {n : Nat} (h : s.alert.flags.getLsbD n = true) :
    (raise f s).alert.flags.getLsbD n = true := by simp [h]

/-- A raise sets its own flag (R173). -/
theorem raise_sets (f : AlertFlag) (s : State) : (raise f s).alert.flags.getLsbD f.bit = true := by
  cases f <;> simp [AlertFlag.mask, AlertFlag.bit]

/-! ## Turns in hand -/

/-- A change of a turn's work touches the turns alone. -/
theorem mapTurn_frame (a : ArrayNo) (f : TurnWork → TurnWork) (s : State) :
    mapTurn a f s = { s with turns := (mapTurn a f s).turns } := by
  unfold mapTurn; split <;> rfl

theorem mapTurn_turn (a b : ArrayNo) (f : TurnWork → TurnWork) (s : State) :
    (mapTurn a f s).turn b =
      if b = a then (s.turn a).map (fun t => { t with work := f t.work }) else s.turn b := by
  unfold mapTurn
  split
  · rename_i h
    split
    · subst_vars; simp [h]
    · rfl
  · rename_i t h
    simp only [turn_setTurn, h, Option.map_some]

/-! ## The path state (R146, R157) -/

/-- A path state without a request in waiting is changed by moving there and nothing more. -/
theorem changePath_no_waiting {p : PathState} {s : State} (h : s.port.waiting = none) :
    changePath p s = moveTo p s := by
  simp [changePath, weighWaiting, h]

/-- Weighing again is weighing with the waiting place empty (R146). -/
theorem weighWaiting_some {s : State} {r : Request} (h : s.port.waiting = some r) :
    weighWaiting s = weigh r { s with port := { s.port with waiting := none } } := by
  simp [weighWaiting, h]

theorem weighWaiting_none {s : State} (h : s.port.waiting = none) : weighWaiting s = s := by
  simp [weighWaiting, h]

/-- CLOSED answers carry eight zero bytes in even parity (R152). -/
theorem answerClosed_eq (r : Request) (s : State) : answerClosed r s = answer (closedAnswer r) s := by
  cases r
  · have : sentParity (0 : Data) false = 0 := by decide
    simp only [answerClosed, answerRead, closedAnswer, ReadStatus.goodData, this]
  · rfl

/-! ## Weighing a request (R144, R145) -/

theorem weigh_busReset {r : Request} {s : State} (h : s.busReset = true) : weigh r s = s := by
  simp [weigh, h]

theorem weigh_opened {r : Request} {s : State} (hb : s.busReset = false) (hp : s.path.path = .opened) :
    weigh r s = weighOpen r s := by
  simp [weigh, hb, hp]

theorem weigh_closed {r : Request} {s : State} (hb : s.busReset = false)
    (hp : s.path.path = .setup ∨ s.path.path = .filling ∨ s.path.path = .draining ∨ s.path.path = .frozen) :
    weigh r s = answer (closedAnswer r) s := by
  rcases hp with hp | hp | hp | hp <;> simp [weigh, hb, hp, answerClosed_eq]

/-! ## Grants (R32, R33) -/

/-- What a grant grants is permitted, waits, and finds the sequencer idle. -/
theorem grantChoice_some {s : State} {a : ArrayNo} {k : TurnKind} (h : grantChoice s a = some k) :
    s.turn a = none ∧ permits s.path.path k = true ∧ claimWaiting s a k = true := by
  unfold grantChoice at h
  split at h
  · cases h
  · rename_i hn
    have hk := List.find?_some h
    simp only [Bool.and_eq_true] at hk
    exact ⟨by simpa using hn, hk.1, hk.2⟩

/-- TURN_GRANT leaves the state, or begins a turn of the kind chosen, or stops where the claimant names no word. -/
theorem execTurnGrant_cases (a : ArrayNo) (s : State) :
    (grantChoice s a = none ∧ execTurnGrant a s = .next s) ∨
    (∃ k t, grantChoice s a = some k ∧ grant a k s = some t ∧ execTurnGrant a s = .next t) ∨
    (∃ k, grantChoice s a = some k ∧ grant a k s = none ∧ execTurnGrant a s = .fault .noSuchWord) := by
  unfold execTurnGrant
  cases hc : grantChoice s a with
  | none => exact .inl ⟨rfl, rfl⟩
  | some k =>
    cases hg : grant a k s with
    | none => exact .inr (.inr ⟨k, rfl, hg, by simp [hg]⟩)
    | some t => exact .inr (.inl ⟨k, t, rfl, hg, by simp [hg]⟩)

/-! ## Reading and rewriting words -/

/-- The decode of a turn's read, when the array is as it was left. -/
theorem readIn_eq_decodeNow (a : ArrayNo) (i : PhysIndex) (r : SteerRecord) (s : State) :
    readIn s a r i = decodeNow s a i r 0 := by simp [readIn, decodeNow]

end Sys2Proof.Machine
end

