-- ==== Sys2Proof/Laws/Repair.lean ====
section
/-! SUPPORT. What an occurrence, and the condemnations it sets off, leaves alone: an occurrence reaches the Fault Map, the
repair blocks, the turns in hand, the alerts and, through them, the path state, and nothing else (R35, R52 to R63). -/

namespace Sys2Proof.Machine

/-- Two states that agree outside the Fault Map, the repair blocks, the turns, the alerts and the path. -/
structure SameBeyondRepair (s t : State) : Prop where
  params : t.params = s.params
  mem : t.mem = s.mem
  epoch : t.epoch = s.epoch
  scrub : t.scrub = s.scrub
  queue : t.queue = s.queue
  port : t.port = s.port
  link : t.link = s.link
  busReset : t.busReset = s.busReset
  supplyWarning : t.supplyWarning = s.supplyWarning
  pending : t.pending = s.pending

theorem SameBeyondRepair.refl (s : State) : SameBeyondRepair s s := by constructor <;> rfl

theorem SameBeyondRepair.trans {s t u : State} (h : SameBeyondRepair s t) (g : SameBeyondRepair t u) :
    SameBeyondRepair s u := by
  constructor
  · rw [g.params, h.params]
  · rw [g.mem, h.mem]
  · rw [g.epoch, h.epoch]
  · rw [g.scrub, h.scrub]
  · rw [g.queue, h.queue]
  · rw [g.port, h.port]
  · rw [g.link, h.link]
  · rw [g.busReset, h.busReset]
  · rw [g.supplyWarning, h.supplyWarning]
  · rw [g.pending, h.pending]

theorem raise_same (f : AlertFlag) (s : State) : SameBeyondRepair s (raise f s) := by
  rw [raise_frame]; constructor <;> rfl

theorem mapTurn_same (a : ArrayNo) (f : TurnWork → TurnWork) (s : State) : SameBeyondRepair s (mapTurn a f s) := by
  rw [mapTurn_frame]; constructor <;> rfl

theorem setEntry_same (i : Fin 32) (e : Option SubEntry) (s : State) : SameBeyondRepair s (setEntry i e s) := by
  constructor <;> rfl

theorem setSpare_same (a : ArrayNo) (t : SpareNo) (x : SpareStatus) (s : State) :
    SameBeyondRepair s (setSpare a t x s) := by constructor <;> rfl

theorem setSteer_same (a : ArrayNo) (r : SteerRecord) (s : State) : SameBeyondRepair s (setSteer a r s) := by
  constructor <;> rfl

theorem condemnHostRow_same (auto : Bool) (a : ArrayNo) (row : Nat) (s : State) :
    SameBeyondRepair s (condemnHostRow auto a row s).1 := by
  unfold condemnHostRow
  split
  · exact .refl s
  · split
    · exact .refl s
    · split
      · exact (setSpare_same ..).trans (setEntry_same ..)
      · exact raise_same ..

theorem retarget_same (auto : Bool) (a : ArrayNo) (i : Fin 32) (e : SubEntry) (s : State) :
    SameBeyondRepair s (retarget auto a i e s).1 := by
  unfold retarget
  split
  · exact .refl s
  · split
    · exact (setSpare_same ..).trans (setEntry_same ..)
    · exact raise_same ..

theorem replaceTarget_same (a : ArrayNo) (i : Fin 32) (e : SubEntry) (src : CopySource) (s : State) :
    SameBeyondRepair s (replaceTarget a i e src s).1 := by
  have h : SameBeyondRepair s (voidCopy a i (setSpare a e.target .retired s)) :=
    (setSpare_same ..).trans (mapTurn_same ..)
  unfold replaceTarget
  dsimp only
  split
  · exact h.trans ((setSpare_same ..).trans (setEntry_same ..))
  · exact h.trans ((setEntry_same ..).trans (raise_same ..))

theorem condemnRowEngine_same (auto : Bool) (a : ArrayNo) (row : Nat) (s : State) :
    SameBeyondRepair s (condemnRowEngine auto a row s).1 := by
  unfold condemnRowEngine
  split
  · exact condemnHostRow_same ..
  · split
    · unfold condemnSpare
      split
      · exact .refl s
      · split
        · exact retarget_same ..
        · exact replaceTarget_same ..
    · exact .refl s

theorem condemnLaneEngine_same (auto : Bool) (a : ArrayNo) (l : PhysLane) (s : State) :
    SameBeyondRepair s (condemnLaneEngine auto a l s).1 := by
  unfold condemnLaneEngine
  split
  · unfold condemnCodedLane
    split
    · split
      · exact .refl s
      · exact setSteer_same ..
    · split
      · exact .refl s
      · split
        · exact .refl s
        · exact raise_same ..
  · unfold condemnSpareLane
    split
    · exact .refl s
    · exact ((setSteer_same ..).trans (mapTurn_same ..)).trans (raise_same ..)
    · exact raise_same ..

theorem condemnRow_same (a : ArrayNo) (row : Nat) (s : State) : SameBeyondRepair s (condemnRow a row s) := by
  refine SameBeyondRepair.trans ?_ (raise_same ..)
  exact SameBeyondRepair.trans (by constructor <;> rfl) (condemnRowEngine_same ..)

theorem condemnLane_same (a : ArrayNo) (l : PhysLane) (s : State) : SameBeyondRepair s (condemnLane a l s) := by
  refine SameBeyondRepair.trans ?_ (raise_same ..)
  exact SameBeyondRepair.trans (by constructor <;> rfl) (condemnLaneEngine_same ..)

theorem triggers_same (o : Occurrence) (b : Bool) (s : State) : SameBeyondRepair s (triggers o b s) := by
  unfold triggers
  split
  · exact condemnRow_same ..
  · exact .refl s
  · split
    · unfold laneTriggers
      dsimp only
      split <;> split
      · exact (condemnRow_same ..).trans (condemnLane_same ..)
      · exact condemnLane_same ..
      · exact condemnRow_same ..
      · exact .refl s
    · exact .refl s

/-- An occurrence changes nothing beyond the repair blocks, the alerts and the path state. -/
theorem deliver_same (o : Occurrence) (s : State) : SameBeyondRepair s (deliver o s) := by
  unfold deliver
  dsimp only
  split
  · refine SameBeyondRepair.trans ?_ (triggers_same ..)
    exact (raise_same ..).trans (by constructor <;> rfl)
  · exact ((raise_same ..).trans (raise_same ..)).trans (triggers_same ..)

/-- A turn's report changes nothing beyond them either. -/
theorem report_same (a : ArrayNo) (i : PhysIndex) (g : Origin) (d : Decoded) (s : State) :
    SameBeyondRepair s (report a i g d s) := by
  unfold report
  split
  · exact .refl s
  · exact deliver_same ..

/-- A word read without an error is not reported (R43). -/
theorem report_none {d : Decoded} (h : d.error = none) (a : ArrayNo) (i : PhysIndex) (g : Origin) (s : State) :
    report a i g d s = s := by
  simp [report, h]

end Sys2Proof.Machine
end

