-- ==== Sys2Proof/Laws/FaultMap.lean ====
section
/-! SUPPORT. What an occurrence does to the Fault Map, case by case: where its entry stands (R53 to R56),
  when it becomes
SUSPECT (R58), which condemnations follow (R60 to R63), and what reaches the two repair blocks. -/

namespace Sys2Proof.Machine

/-! ## The first of a finite range -/

/-- The first hit of a search over a range. -/
theorem findSome_finRange {n : Nat} {β} (f : Fin n → Option β) (b : β) : (List.finRange n).findSome? f = some b ↔
    ∃ i, f i = some b ∧ ∀ j < i, f j = none := by
  rw [List.findSome?_eq_some_iff]
  constructor
  · rintro ⟨l1, i, l2, h, h1, h2⟩
    refine ⟨i, h1, fun j hj => ?_⟩
    apply h2
    have hs : (List.finRange n).Pairwise (· < ·) := List.pairwise_lt_finRange n
    have hm : j ∈ List.finRange n := List.mem_finRange j
    rw [h] at hs hm
    rw [List.pairwise_append] at hs
    simp only [List.mem_append, List.mem_cons] at hm
    rcases hm with hm | rfl | hm
    · exact hm
    · exact absurd hj (lt_irrefl _)
    · have := (List.pairwise_cons.1 hs.2.1).1 j hm
      exact absurd hj (not_lt.2 this.le)
  · rintro ⟨i, h1, h2⟩
    obtain ⟨l1, l2, h⟩ := List.append_of_mem (List.mem_finRange i)
    refine ⟨l1, i, l2, h, h1, fun j hj => h2 j ?_⟩
    have hs : (List.finRange n).Pairwise (· < ·) := List.pairwise_lt_finRange n
    rw [h, List.pairwise_append] at hs
    exact hs.2.2 j hj i (by simp)

/-- The first place with a property. -/
theorem find_finRange {n : Nat} (p : Fin n → Bool) (i : Fin n) :
    (List.finRange n).find? p = some i ↔ p i = true ∧ ∀ j < i, p j = false := by
  rw [List.find?_eq_some_iff_getElem]
  constructor
  · rintro ⟨h, k, hk, h1, h2⟩
    simp only [List.getElem_finRange] at h1
    subst h1
    refine ⟨h, fun j hj => ?_⟩
    have := h2 j.val (by simpa [Fin.lt_def] using hj)
    simpa using this
  · rintro ⟨h, h2⟩
    refine ⟨h, i.val, by simp, by simp, ?_⟩
    intro j hj
    simpa using h2 ⟨j, by omega⟩ (by simpa [Fin.lt_def] using hj)

/-- Two counts that differ at one place. -/
theorem countP_finRange_succ {n : Nat} {f g : Fin n → Bool} {i : Fin n} (hne : ∀ j, j ≠ i → g j = f j)
    (hf : f i = false) (hg : g i = true) :
    (List.finRange n).countP g = (List.finRange n).countP f + 1 := by
  have key : ∀ l : List (Fin n), l.Nodup → l.countP g = l.countP f + if i ∈ l then 1 else 0 := by
    intro l
    induction l with
    | nil => intro _; simp
    | cons x l ih =>
      intro h
      have hx := List.nodup_cons.1 h
      by_cases hxi : x = i
      · subst hxi
        rw [List.countP_cons_of_pos hg, List.countP_cons_of_neg (by simp [hf]), ih hx.2]
        simp [hx.1]
      · have := ih hx.2
        have hi : (i ∈ x :: l) ↔ i ∈ l := by simp [Ne.symm hxi]
        simp only [List.countP_cons, hne x hxi, this, hi]
        omega
  rw [key _ (List.nodup_finRange n)]
  simp [List.mem_finRange]

/-! ## Keys, empty slots, evictions -/

/-- The three parts of a key (R49, R52). -/
theorem hasKey_iff (o : Occurrence) (e : MapEntry) : o.hasKey e = true ↔ e.array = o.array ∧ e.row = o.row ∧
    e.lane = o.error.lane := by
  simp [Occurrence.hasKey]

/-- At most one slot has a key (R49). -/
theorem key_unique {s : State} {o : Occurrence} (hm : MapOk s.map) {i j : Fin 64} {e f : MapEntry}
    (h1 : s.map.slot i = some e) (h2 : s.map.slot j = some f) (h3 : o.hasKey e = true) (h4 : o.hasKey f = true) :
     i = j := by
  rw [hasKey_iff] at h3 h4
  exact hm.2.1 i j e h1 f h2 (by rw [h3.1, h4.1]) (by rw [h3.2.1, h4.2.1]) (by rw [h3.2.2, h4.2.2])

theorem findKey_some {m : FaultMap} {o : Occurrence} {i : Fin 64} {e : MapEntry} (h : m.findKey o = some (i, e)) :
    m.slot i = some e ∧ o.hasKey e = true := by
  unfold FaultMap.findKey at h
  rw [findSome_finRange] at h
  obtain ⟨k, h, -⟩ := h
  split at h
  · split at h
    · simp only [Option.some.injEq, Prod.mk.injEq] at h
      obtain ⟨rfl, rfl⟩ := h
      exact ⟨‹_›, ‹_›⟩
    · cases h
  · cases h

theorem findKey_none {m : FaultMap} {o : Occurrence} (h : m.findKey o = none) (i : Fin 64) (e : MapEntry)
    (he : m.slot i = some e) :
    o.hasKey e = false := by
  unfold FaultMap.findKey at h
  have := List.findSome?_eq_none_iff.1 h i (List.mem_finRange i)
  simpa [he] using this

theorem emptySlot_some {m : FaultMap} {i : Fin 64} (h : m.emptySlot = some i) : m.slot i = none ∧ ∀ j,
    m.slot j = none → i ≤ j := by
  unfold FaultMap.emptySlot at h
  rw [find_finRange] at h
  refine ⟨by simpa using h.1, fun j hj => ?_⟩
  by_contra hc
  have := h.2 j (not_le.1 hc)
  simp [hj] at this

theorem emptySlot_none {m : FaultMap} (h : m.emptySlot = none) (i : Fin 64) : ∃ e, m.slot i = some e := by
  unfold FaultMap.emptySlot at h
  rw [List.find?_eq_none] at h
  have := h i (List.mem_finRange i)
  cases hs : m.slot i with
  | none => rw [hs] at this; exact absurd rfl this
  | some e => exact ⟨e, rfl⟩

/-- The evicted entry is WATCH, and those less recent are not (R55). -/
theorem evictable_some {m : FaultMap} {i : Fin 64} (h : m.evictable = some i) :
    ∃ e, m.slot i = some e ∧ e.state = .watch ∧ ∃ b c, m.recency = b ++ i :: c ∧ ∀ j ∈ b, ∀ x ∈ m.slot j,
     x.state ≠ .watch := by
  unfold FaultMap.evictable at h
  rw [List.find?_eq_some_iff_append] at h
  obtain ⟨h, b, c, hb, h2⟩ := h
  split at h
  · rename_i e he
    refine ⟨e, he, by simpa using h, b, c, hb, fun j hj x hx => ?_⟩
    have := h2 j hj
    rw [Option.mem_def] at hx
    simpa [hx] using this
  · cases h

theorem evictable_none {m : FaultMap} (hm : MapOk m) (h : m.evictable = none) (i : Fin 64) (e : MapEntry)
    (he : m.slot i = some e) : e.state ≠ .watch := by
  unfold FaultMap.evictable at h
  rw [List.find?_eq_none] at h
  have := h i ((hm.2.2.2 i).2 (by simp [he]))
  simpa [he] using this

theorem slot_setSlot_touch (m : FaultMap) (i j : Fin 64) (e : Option MapEntry) :
    ((m.setSlot i e).touch i).slot j = if j = i then e else m.slot j := by
  simp only [FaultMap.touch, FaultMap.setSlot, FaultMap.slot, Vector.get_eq_getElem]
  by_cases h : j = i
  · subst h; simp
  · have : i.val ≠ j.val := fun h' => h (Fin.ext h'.symm)
    rw [Vector.getElem_set_ne _ _ this]; simp [h]

/-! ## Recording -/

/-- Everything a recorded occurrence leaves: `e` in slot `i`, most recent (R53, R54, R55, R58). -/
structure RecordedAs (sa : Nat) (p : BitVec 16) (o : Occurrence) (m m' : FaultMap) (b : Bool) (i : Fin 64)
    (e : MapEntry) : Prop where
  eq : m' = (m.setSlot i (some e)).touch i
  key : o.hasKey e = true
  col : e.lastColumn = o.column
  pass : e.lastPass = p
  org : e.lastOrigin = o.origin
  cls : e.lastClass = o.error.uncorrectable
  upd : ∀ j old, m.slot j = some old → o.hasKey old = true → j = i ∧
      e.occurrences = (if old.occurrences = 15 then 15 else old.occurrences + 1) ∧ e.firstPass = old.firstPass ∧
      e.state = (if old.state = .watch ∧ sa ≤ e.occurrences then .suspect else old.state) ∧
      (b = true ↔ old.state = .watch ∧ sa ≤ e.occurrences)
  new : (∀ j old, m.slot j = some old → o.hasKey old = false) → e.occurrences = 1 ∧ e.firstPass = p ∧
      e.state = (match o.error with
            | .fixed _ => if sa ≤ 1 then .suspect else .watch
            | .blank => .suspect
            | .fault => .suspect) ∧
      ((∃ j, m.slot j = none) → m.slot i = none) ∧ (∀ j, m.slot j = none → i ≤ j) ∧
      (∀ old, m.slot i = some old → old.state = .watch ∧ ∃ bf af, m.recency = bf ++ i :: af ∧ ∀ j ∈ bf,
        ∀ x ∈ m.slot j, x.state ≠ .watch) ∧
      (b = true ↔ o.error.lane ≠ none ∧ sa ≤ 1)

/-- A recorded occurrence is recorded so. -/
theorem recordKey_recorded {sa : Nat} {p : BitVec 16} {o : Occurrence} {m m' : FaultMap} {b : Bool} (hm : MapOk m)
    (h : m.recordKey sa p o = .recorded m' b) : ∃ i e, RecordedAs sa p o m m' b i e := by
  unfold FaultMap.recordKey at h
  cases hk : m.findKey o with
  | some x =>
    obtain ⟨i, e⟩ := x
    rw [hk] at h
    simp only [Recording.recorded.injEq] at h
    obtain ⟨rfl, rfl⟩ := h
    obtain ⟨hi, hkey⟩ := findKey_some hk
    have hok := hm.1 i e hi
    have hkk := hkey
    rw [hasKey_iff] at hkk
    have huniq : ∀ j old, m.slot j = some old → o.hasKey old = true → j = i ∧ old = e := by
      intro j old h1 h2
      rw [hasKey_iff] at h2
      have := hm.2.1 j i old h1 e hi (by rw [h2.1, hkk.1]) (by rw [h2.2.1, hkk.2.1]) (by rw [h2.2.2, hkk.2.2])
      subst this
      rw [hi] at h1; exact ⟨rfl, (Option.some.inj h1).symm⟩
    refine ⟨i, e.update sa p o, rfl, ?_, rfl, rfl, rfl, ?_, ?_, ?_⟩
    · rw [hasKey_iff]; exact hkk
    · simp only [MapEntry.update]
      cases hl : e.lane with
      | none => rfl
      | some l =>
        have : e.lastClass = none := by
          have := hok.2.2.2.1
          rw [hl] at this; simpa using this
        rw [hkk.2.2] at hl
        cases ho : o.error with
        | fixed l' => simp [this, ErrorClass.uncorrectable]
        | blank => rw [ho] at hl; cases hl
        | fault => rw [ho] at hl; cases hl
    · intro j old h1 h2
      obtain ⟨rfl, rfl⟩ := huniq j old h1 h2
      refine ⟨rfl, rfl, rfl, ?_, ?_⟩
      · simp only [MapEntry.update]
        cases old.state <;> simp [testSuspect]
      · simp only [MapEntry.update]
        cases old.state <;> simp [testSuspect]
    · intro hno
      have := hno i e hi; rw [hkey] at this; cases this
  | none =>
    rw [hk] at h
    have hnone := findKey_none hk
    dsimp only at h
    have hb : ∀ i, (∀ j, m.slot j = none → i ≤ j) → ((∃ j, m.slot j = none) → m.slot i = none) →
        (∀ old, m.slot i = some old → old.state = .watch ∧ ∃ bf af, m.recency = bf ++ i :: af ∧ ∀ j ∈ bf,
          ∀ x ∈ m.slot j, x.state ≠ .watch) →
        Recording.recorded ((m.setSlot i (some (MapEntry.create sa p o))).touch i) ((MapEntry.create sa p
          o).lane.isSome && (MapEntry.create sa p o).state == .suspect) = .recorded m' b →
        ∃ i e, RecordedAs sa p o m m' b i e := by
      intro i h1 h2 h3 h
      simp only [Recording.recorded.injEq] at h
      obtain ⟨rfl, rfl⟩ := h
      refine ⟨i, MapEntry.create sa p o, rfl, by rw [hasKey_iff]; exact ⟨rfl, rfl, rfl⟩, rfl, rfl, rfl, rfl, ?_, ?_⟩
      · intro j old hj hkey; rw [hnone j old hj] at hkey; cases hkey
      · intro _
        refine ⟨rfl, rfl, ?_, h2, h1, h3, ?_⟩
        · simp only [MapEntry.create]; cases o.error <;> simp [testSuspect]
        · simp only [MapEntry.create]; cases o.error <;> simp [testSuspect, ErrorClass.lane]
    cases he : m.emptySlot with
    | some i =>
      rw [he] at h
      obtain ⟨h1, h2⟩ := emptySlot_some he
      exact hb i h2 (fun _ => h1) (by intro old ho; rw [h1] at ho; cases ho) h
    | none =>
      rw [he] at h
      have hfull := emptySlot_none he
      dsimp only at h
      cases hv : m.evictable with
      | none => rw [hv] at h; cases h
      | some i =>
        rw [hv] at h
        obtain ⟨e, h1, h2, h3⟩ := evictable_some hv
        refine hb i ?_ ?_ ?_ h
        · intro j hj; obtain ⟨x, hx⟩ := hfull j; rw [hj] at hx; cases hx
        · rintro ⟨j, hj⟩; obtain ⟨x, hx⟩ := hfull j; rw [hj] at hx; cases hx
        · intro old ho; rw [h1] at ho; cases ho; exact ⟨h2, h3⟩

/-- An occurrence is not recorded only in a full map without a WATCH entry (R56). -/
theorem recordKey_lost {sa : Nat} {p : BitVec 16} {o : Occurrence} {m : FaultMap} (hm : MapOk m)
    (h : m.recordKey sa p o = .lost) : ∀ j, ∃ e, m.slot j = some e ∧ e.state ≠ .watch ∧ o.hasKey e = false := by
  unfold FaultMap.recordKey at h
  cases hk : m.findKey o with
  | some x => rw [hk] at h; cases h
  | none =>
    rw [hk] at h; dsimp only at h
    cases he : m.emptySlot with
    | some i => rw [he] at h; cases h
    | none =>
      rw [he] at h; dsimp only at h
      cases hv : m.evictable with
      | some i => rw [hv] at h; cases h
      | none =>
        intro j
        obtain ⟨e, hj⟩ := emptySlot_none he j
        exact ⟨e, hj, evictable_none hm hv j e hj, findKey_none hk j e hj⟩

/-- An occurrence not recorded never makes an entry SUSPECT. -/
theorem not_becomesSuspect_of_lost {s : State} {o : Occurrence}
    (h : ∀ j, ∃ e, s.map.slot j = some e ∧ e.state ≠ .watch ∧ o.hasKey e = false) : ¬BecomesSuspect s o := by
  rintro (⟨i, e, he, hk, -⟩ | ⟨-, -, i, hi⟩)
  · obtain ⟨x, hx, -, h2⟩ := h i
    rw [Option.mem_def, hx] at he; cases he; rw [hk] at h2; cases h2
  · obtain ⟨x, hx, h2, -⟩ := h i
    exact h2 (hi x hx)

/-- The recording says that an entry became SUSPECT exactly when R58 does. -/
theorem becameSuspect_iff {s : State} {o : Occurrence} {m' b i e} (hm : MapOk s.map)
    (r : RecordedAs s.params.suspectAt s.scrub.pass o s.map m' b i e) (hl : o.error.lane ≠ none) :
    b = true ↔ BecomesSuspect s o := by
  by_cases hex : ∃ j old, s.map.slot j = some old ∧ o.hasKey old = true
  · obtain ⟨j, old, h1, h2⟩ := hex
    obtain ⟨rfl, hocc, -, -, hb⟩ := r.upd j old h1 h2
    have ho := hm.1 j old h1
    have h15 := ho.2.1
    rw [hb]
    constructor
    · rintro ⟨hw, hs⟩
      refine .inl ⟨j, old, h1, h2, hw, ?_⟩
      split at hocc <;> omega
    · rintro (⟨k, x, hx, hk, hw, hs⟩ | ⟨hno, -⟩)
      · have := key_unique hm h1 hx h2 hk; subst this
        rw [Option.mem_def, h1] at hx; cases hx
        refine ⟨hw, ?_⟩
        split at hocc <;> omega
      · have := hno j old h1; rw [h2] at this; cases this
  · have hno : ∀ j old, s.map.slot j = some old → o.hasKey old = false := by
      intro j old h1
      cases hk : o.hasKey old with
      | false => rfl
      | true => exact absurd ⟨j, old, h1, hk⟩ hex
    obtain ⟨-, -, -, he, -, hw, hb⟩ := r.new hno
    rw [hb]
    constructor
    · rintro ⟨-, hs⟩
      refine .inr ⟨hno, hs, ?_⟩
      exact ⟨i, fun x hx => (hw x hx).1⟩
    · rintro (⟨k, x, hx, hk, -⟩ | ⟨-, hs, -⟩)
      · exact absurd ⟨k, x, hx, hk⟩ hex
      · exact ⟨hl, hs⟩

/-- An entry that becomes SUSPECT does so in a slot that held none or a WATCH entry. -/
theorem RecordedAs.became {sa : Nat} {p : BitVec 16} {o : Occurrence} {m m' : FaultMap} {i : Fin 64} {e : MapEntry}
    (r : RecordedAs sa p o m m' true i e) :
    e.state = .suspect ∧ ∀ old, m.slot i = some old → old.state = .watch := by
  by_cases hex : ∃ j old, m.slot j = some old ∧ o.hasKey old = true
  · obtain ⟨j, old, h1, h2⟩ := hex
    obtain ⟨rfl, -, -, hs, hb⟩ := r.upd j old h1 h2
    have := hb.1 rfl
    rw [if_pos this] at hs
    refine ⟨hs, fun x hx => ?_⟩
    rw [h1] at hx; cases hx; exact this.1
  · have hno : ∀ j old, m.slot j = some old → o.hasKey old = false := by
      intro j old h1
      cases hk : o.hasKey old with
      | false => rfl
      | true => exact absurd ⟨j, old, h1, hk⟩ hex
    obtain ⟨-, -, hs, he, -, hw, hb⟩ := r.new hno
    obtain ⟨h1, h2⟩ := hb.1 rfl
    constructor
    · rw [hs]; cases ho : o.error with
      | fixed l => simp [h2]
      | blank => rfl
      | fault => rfl
    · exact fun x hx => (hw x hx).1

/-- R61 counts one lane more than stood SUSPECT before. -/
theorem RecordedAs.lanes {s : State} {o : Occurrence} {m' : FaultMap} {i : Fin 64} {e : MapEntry}
    (r : RecordedAs s.params.suspectAt s.scrub.pass o s.map m' true i e) (hl : o.error.lane ≠ none) :
    m'.suspectLanes o.array o.row = lanesSuspect s o.array o.row + 1 := by
  obtain ⟨h1, h2⟩ := r.became
  have hk := (hasKey_iff o e).1 r.key
  unfold FaultMap.suspectLanes FaultMap.countWhere lanesSuspect
  apply countP_finRange_succ (i := i)
  · intro j hj
    rw [r.eq, slot_setSlot_touch, if_neg hj]
    cases s.map.slot j with
    | none => rfl
    | some x => cases hx : x.lane <;> simp [MapEntry.inRow, hx] <;> (rw [Bool.eq_iff_iff]; simp [and_assoc])
  · cases hs : s.map.slot i with
    | none => rfl
    | some x => simp [h2 x hs]
  · rw [r.eq, slot_setSlot_touch, if_pos rfl]
    simp only [MapEntry.inRow, hk.1, hk.2.1, hk.2.2, h1]
    cases hx : o.error.lane with
    | none => exact absurd hx hl
    | some l => simp

/-- R62 counts one row more than stood SUSPECT before. -/
theorem RecordedAs.rows {s : State} {o : Occurrence} {m' : FaultMap} {i : Fin 64} {e : MapEntry} {l : PhysLane}
    (r : RecordedAs s.params.suspectAt s.scrub.pass o s.map m' true i e) (hl : o.error.lane = some l) :
    m'.suspectRows o.array l = rowsSuspect s o.array l + 1 := by
  obtain ⟨h1, h2⟩ := r.became
  have hk := (hasKey_iff o e).1 r.key
  unfold FaultMap.suspectRows FaultMap.countWhere rowsSuspect
  apply countP_finRange_succ (i := i)
  · intro j hj
    rw [r.eq, slot_setSlot_touch, if_neg hj]
    cases s.map.slot j with
    | none => rfl
    | some x => simp [MapEntry.inLane]; rw [Bool.eq_iff_iff]; simp [and_assoc]
  · cases hs : s.map.slot i with
    | none => rfl
    | some x => simp [h2 x hs]
  · rw [r.eq, slot_setSlot_touch, if_pos rfl]
    simp [MapEntry.inLane, hk.1, hk.2.2, h1, hl]

/-! ## Flags -/

theorem error_flag_bit (x : ErrorClass) : x.flag.bit ≠ 3 ∧ x.flag.bit ≠ 4 ∧ x.flag.bit ≠ 6 ∧ x.flag.bit < 11 := by
  cases x <;> simp [ErrorClass.flag, AlertFlag.bit]

/-- One bit of the flags after a flag is raised. -/
theorem getLsbD_raise (f : AlertFlag) (s : State) (n : Nat) :
    (raise f s).alert.flags.getLsbD n = (s.alert.flags.getLsbD n || decide (n = f.bit)) := by
  rw [raise_alert, BitVec.getLsbD_or]
  congr 1
  have : f.bit < 11 := by cases f <;> decide
  rw [AlertFlag.mask, BitVec.getLsbD_twoPow, Bool.eq_iff_iff]
  simp
  omega

theorem noSpare_raise_condemned (s : State) : (raise .condemned s).alert.flags.getLsbD 6 = s.alert.flags.getLsbD 6 := by
  rw [getLsbD_raise]; simp [AlertFlag.bit]

theorem getLsbD_or_condemned (x : BitVec 11) (n : Nat) : (x ||| 0x10).getLsbD n = (x.getLsbD n || decide (n = 4)) := by
  rw [BitVec.getLsbD_or]
  congr 1
  by_cases h : n < 11
  · interval_cases n <;> decide
  · rw [BitVec.getLsbD_of_ge _ _ (by omega)]; simp; omega

theorem getLsbD_or_noSpare (x : BitVec 11) (n : Nat) : (x ||| 0x40).getLsbD n = (x.getLsbD n || decide (n = 6)) := by
  rw [BitVec.getLsbD_or]
  congr 1
  by_cases h : n < 11
  · interval_cases n <;> decide
  · rw [BitVec.getLsbD_of_ge _ _ (by omega)]; simp; omega

/-! ## The engines -/

@[simp] theorem condemnRowEngine_map (auto : Bool) (a : ArrayNo) (row : Nat) (s : State) :
    (condemnRowEngine auto a row s).1.map = s.map := by
  unfold condemnRowEngine
  split
  · unfold condemnHostRow; repeat (first | rfl | split | simp)
  · split
    · unfold condemnSpare
      split
      · rfl
      · split
        · unfold retarget; repeat (first | rfl | split | simp)
        · unfold replaceTarget
          dsimp only
          split
          · show (voidCopy _ _ _).map = _; unfold voidCopy; rw [mapTurn_frame]; rfl
          · rw [raise_map]; show (voidCopy _ _ _).map = _; unfold voidCopy; rw [mapTurn_frame]; rfl
    · rfl

@[simp] theorem condemnRowEngine_steer (auto : Bool) (a : ArrayNo) (row : Nat) (s : State) :
    (condemnRowEngine auto a row s).1.steer = s.steer := by
  unfold condemnRowEngine
  split
  · unfold condemnHostRow; repeat (first | rfl | split | simp)
  · split
    · unfold condemnSpare
      split
      · rfl
      · split
        · unfold retarget; repeat (first | rfl | split | simp)
        · unfold replaceTarget
          dsimp only
          split
          · show (voidCopy _ _ _).steer = _; unfold voidCopy; rw [mapTurn_frame]; rfl
          · rw [raise_steer]; show (voidCopy _ _ _).steer = _; unfold voidCopy; rw [mapTurn_frame]; rfl
    · rfl

@[simp] theorem condemnLaneEngine_map (auto : Bool) (a : ArrayNo) (l : PhysLane) (s : State) :
    (condemnLaneEngine auto a l s).1.map = s.map := by
  unfold condemnLaneEngine
  split
  · unfold condemnCodedLane; repeat (first | rfl | split | simp)
  · unfold condemnSpareLane
    split
    · rfl
    · rw [raise_map]; unfold cancelMigration; rw [mapTurn_frame]; rfl
    · rw [raise_map]

@[simp] theorem condemnLaneEngine_subs (auto : Bool) (a : ArrayNo) (l : PhysLane) (s : State) :
    (condemnLaneEngine auto a l s).1.subs = s.subs := by
  unfold condemnLaneEngine
  split
  · unfold condemnCodedLane; repeat (first | rfl | split | simp)
  · unfold condemnSpareLane
    split
    · rfl
    · rw [raise_subs]; unfold cancelMigration; rw [mapTurn_frame]; rfl
    · rw [raise_subs]

/-- A row condemnation touches the alerts by NO-SPARE alone. -/
theorem condemnRowEngine_alert (auto : Bool) (a : ArrayNo) (row : Nat) (s : State) :
    (condemnRowEngine auto a row s).1.alert = s.alert ∨
      (condemnRowEngine auto a row s).1.alert = { s.alert with flags := s.alert.flags ||| 0x40 } := by
  unfold condemnRowEngine
  split
  · unfold condemnHostRow; repeat (first | exact .inl rfl | exact .inr (by simp [raise_alert]; rfl) | split)
  · split
    · unfold condemnSpare
      split
      · exact .inl rfl
      · split
        · unfold retarget; repeat (first | exact .inl rfl | exact .inr (by simp [raise_alert]; rfl) | split)
        · unfold replaceTarget
          dsimp only
          split
          · left; show (voidCopy _ _ _).alert = _; unfold voidCopy; rw [mapTurn_frame]; rfl
          · right; rw [raise_alert]; show ({ (voidCopy _ _ _).alert with flags := _ } : AlertUnit) = _
            have : ∀ x, (voidCopy a x (setSpare a ‹SubEntry›.target .retired s)).alert = s.alert := by
              intro x; unfold voidCopy; rw [mapTurn_frame]; rfl
            rw [this]; simp [setEntry, this, AlertFlag.mask, AlertFlag.bit]; rfl
    · exact .inl rfl

/-- A lane condemnation touches the alerts by NO-SPARE alone. -/
theorem condemnLaneEngine_alert (auto : Bool) (a : ArrayNo) (l : PhysLane) (s : State) :
    (condemnLaneEngine auto a l s).1.alert = s.alert ∨
      (condemnLaneEngine auto a l s).1.alert = { s.alert with flags := s.alert.flags ||| 0x40 } := by
  unfold condemnLaneEngine
  split
  · unfold condemnCodedLane; repeat (first | exact .inl rfl | exact .inr (by simp [raise_alert]; rfl) | split)
  · unfold condemnSpareLane
    split
    · exact .inl rfl
    · right; rw [raise_alert]; unfold cancelMigration; rw [mapTurn_frame]; rfl
    · right; rw [raise_alert]; rfl

@[simp] theorem condemnRow_map (a : ArrayNo) (row : Nat) (s : State) :
    (condemnRow a row s).map = s.map.condemnWhere (MapEntry.inRow a row) := by
  unfold condemnRow; rw [raise_map, condemnRowEngine_map]

@[simp] theorem condemnLane_map (a : ArrayNo) (l : PhysLane) (s : State) :
    (condemnLane a l s).map = s.map.condemnWhere (MapEntry.inLane a l) := by
  unfold condemnLane; rw [raise_map, condemnLaneEngine_map]

theorem condemnRow_flags (a : ArrayNo) (row : Nat) (s : State) :
    (condemnRow a row s).alert.flags = s.alert.flags ||| 0x10 ∨
      (condemnRow a row s).alert.flags = s.alert.flags ||| 0x40 ||| 0x10 := by
  unfold condemnRow
  rw [raise_alert]
  rcases condemnRowEngine_alert true a row { s with map := s.map.condemnWhere (MapEntry.inRow a row) } with h | h
  · left; rw [h]; rfl
  · right; rw [h]; rfl

theorem condemnLane_flags (a : ArrayNo) (l : PhysLane) (s : State) :
    (condemnLane a l s).alert.flags = s.alert.flags ||| 0x10 ∨
      (condemnLane a l s).alert.flags = s.alert.flags ||| 0x40 ||| 0x10 := by
  unfold condemnLane
  rw [raise_alert]
  rcases condemnLaneEngine_alert true a l { s with map := s.map.condemnWhere (MapEntry.inLane a l) } with h | h
  · left; rw [h]; rfl
  · right; rw [h]; rfl

/-! ## An occurrence -/

/-- The state between the recording of an occurrence and the condemnations it sets off. -/
inductive AfterRecording (s : State) (o : Occurrence) : State → Prop
  | ins (m' b i e) (r : RecordedAs s.params.suspectAt s.scrub.pass o s.map m' b i e) :
    AfterRecording s o { raise o.error.flag s with map := m' }
  | lost (h : ∀ j, ∃ e, s.map.slot j = some e ∧ e.state ≠ .watch ∧ o.hasKey e = false) :
    AfterRecording s o (raise .mapFull (raise o.error.flag s))

theorem AfterRecording.same {s u : State} {o : Occurrence} (h : AfterRecording s o u) :
    u.subs = s.subs ∧ u.steer = s.steer ∧ u.turns = s.turns ∧ u.params = s.params ∧
     (∀ n, n ≠ 3 → n ≠ o.error.flag.bit → u.alert.flags.getLsbD n = s.alert.flags.getLsbD n) := by
  cases h with
  | ins m' b i e r =>
    refine ⟨by simp, by simp, by simp, by simp, fun n h3 hf => ?_⟩
    show (raise _ s).alert.flags.getLsbD n = _
    rw [getLsbD_raise]; simp [hf]
  | lost h =>
    refine ⟨by simp, by simp, by simp, by simp, fun n h3 hf => ?_⟩
    rw [getLsbD_raise, getLsbD_raise, decide_eq_false hf,
      decide_eq_false (show n ≠ AlertFlag.mapFull.bit from h3)]; simp

/-- What an occurrence sets off, by its class. -/
theorem triggers_eq (o : Occurrence) (b : Bool) (u : State) :
    (o.error = .fault → triggers o b u = condemnRow o.array o.row u) ∧ (o.error = .blank → triggers o b u = u) ∧
    (∀ l, o.error = .fixed l → triggers o b u = if b then laneTriggers o l u else u) := by
  unfold triggers
  refine ⟨fun h => by rw [h], fun h => by rw [h], fun l h => by rw [h]⟩

theorem error_cases (x : ErrorClass) : x = .fault ∨ x = .blank ∨ ∃ l, x = .fixed l := by cases x <;> simp

/-- An occurrence is recorded, then condemns its row if R60 or R61 says so, then its lane if R62 says so. -/
theorem deliver_cases {s : State} {o : Occurrence} (hm : MapOk s.map) : ∃ u, AfterRecording s o u ∧
    ∀ v, (CondemnsRow s o → v = condemnRow o.array o.row u) → (¬CondemnsRow s o → v = u) →
      (∀ l, CondemnsLane s o l → deliver o s = condemnLane o.array l v) ∧
      ((∀ l, ¬CondemnsLane s o l) → deliver o s = v) := by
  have hr : (raise o.error.flag s).map = s.map ∧ (raise o.error.flag s).params = s.params ∧
    (raise o.error.flag s).scrub = s.scrub := by
    simp
  cases h : s.map.recordKey s.params.suspectAt s.scrub.pass o with
  | lost =>
    have hl := recordKey_lost hm h
    have hnb := not_becomesSuspect_of_lost (s := s) hl
    refine ⟨_, .lost hl, ?_⟩
    have hd : deliver o s = triggers o false (raise .mapFull (raise o.error.flag s)) := by
      unfold deliver
      dsimp only
      rw [hr.1, hr.2.1, hr.2.2, h]
    rw [hd]
    generalize raise .mapFull (raise o.error.flag s) = R
    obtain ⟨t1, t2, t3⟩ := triggers_eq o false R
    intro v hv1 hv2
    constructor
    · rintro l ⟨-, hb, -⟩; exact absurd hb hnb
    · intro _
      rcases error_cases o.error with ho | ho | ⟨l, ho⟩
      · rw [hv1 (.inl ho)]; exact t1 ho
      · rw [hv2]; exact t2 ho
        rintro (h | h); · rw [ho] at h; cases h
        · exact hnb h.2.1
      · rw [hv2]; exact t3 l ho
        rintro (h | h); · rw [ho] at h; cases h
        · exact hnb h.2.1
  | recorded m' b =>
    obtain ⟨i, e, r⟩ := recordKey_recorded hm h
    refine ⟨_, .ins m' b i e r, ?_⟩
    have hd : deliver o s = triggers o b { raise o.error.flag s with map := m' } := by
      unfold deliver
      dsimp only
      rw [hr.1, hr.2.1, hr.2.2, h]
    rw [hd]
    have hR : ({ raise o.error.flag s with map := m' } : State).map = m' ∧
      ({ raise o.error.flag s with map := m' } : State).params = s.params := by simp
    revert hR
    generalize ({ raise o.error.flag s with map := m' } : State) = R
    intro hR
    obtain ⟨t1, t2, t3⟩ := triggers_eq o b R
    intro v hv1 hv2
    rcases error_cases o.error with ho | ho | ⟨l, ho⟩
    · refine ⟨fun l hl => ?_, fun _ => ?_⟩
      · rw [hl.1] at ho; cases ho
      · rw [hv1 (.inl ho)]; exact t1 ho
    · refine ⟨fun l hl => ?_, fun _ => ?_⟩
      · rw [hl.1] at ho; cases ho
      · rw [hv2]; exact t2 ho
        rintro (h | h)
        · rw [ho] at h; cases h
        · exact h.1 (by rw [ho]; rfl)
    · rw [t3 l ho]
      have hlane : o.error.lane ≠ none := by rw [ho]; simp [ErrorClass.lane]
      have hbi := becameSuspect_iff hm r hlane
      have hlane' : o.error.lane = some l := by rw [ho]; rfl
      cases b with
      | false =>
        have hnb : ¬BecomesSuspect s o := fun h => by simpa using hbi.2 h
        refine ⟨fun k hk => absurd hk.2.1 hnb, fun _ => ?_⟩
        have hn : ¬CondemnsRow s o := by
          rintro (h | h)
          · rw [ho] at h; cases h
          · exact hnb h.2.1
        rw [hv2 hn]; rfl
      | true =>
        have hb := hbi.1 rfl
        have c1 := r.lanes hlane
        have c2 := r.rows hlane'
        have e1 : (s.params.rowLanes ≤ lanesSuspect s o.array o.row + 1) ↔ CondemnsRow s o := by
          constructor
          · intro h; exact .inr ⟨hlane, hb, h⟩
          · rintro (h | h)
            · rw [ho] at h; cases h
            · exact h.2.2
        have e2 : (s.params.laneRows ≤ rowsSuspect s o.array l + 1) ↔ CondemnsLane s o l := by
          constructor
          · intro h; exact ⟨ho, hb, h⟩
          · exact fun h => h.2.2
        have hl : ∀ k, CondemnsLane s o k → k = l := by
          intro k hk; have := hk.1; rw [ho] at this; cases this; rfl
        simp only [if_true, laneTriggers, hR.1, hR.2, c1, c2, decide_eq_true_eq, e1, e2]
        by_cases hr : CondemnsRow s o
        · rw [hv1 hr, if_pos hr]
          exact ⟨fun k hk => by cases hl k hk; exact if_pos hk, fun hk => if_neg (hk l)⟩
        · rw [hv2 hr, if_neg hr]
          exact ⟨fun k hk => by cases hl k hk; exact if_pos hk, fun hk => if_neg (hk l)⟩

/-- What the condemnations of an occurrence leave in the map and the flags. -/
structure DeliverMarks (s : State) (o : Occurrence) (p : MapEntry → Bool) (u : State) : Prop where
  recd : AfterRecording s o u
  only : ∀ x, p x = true → x.array = o.array ∧ (x.row = o.row ∨ (o.error.lane ≠ none ∧ x.lane = o.error.lane))
  slot : ∀ j, (deliver o s).map.slot j = (u.map.slot j).map (fun x => if p x then { x with state := .condemned } else x)
  recency : (deliver o s).map.recency = u.map.recency
  flags : ∀ n, n ≠ 4 → n ≠ 6 → (deliver o s).alert.flags.getLsbD n = u.alert.flags.getLsbD n
  row : CondemnsRow s o → (∀ x, x.array = o.array → x.row = o.row → p x = true) ∧
    (deliver o s).alert.flags.getLsbD 4 = true
  lane : ∀ l, CondemnsLane s o l → (∀ x, x.array = o.array → x.lane = some l → p x = true) ∧
    (deliver o s).alert.flags.getLsbD 4 = true
  neither : ¬CondemnsRow s o → (∀ l, ¬CondemnsLane s o l) → deliver o s = u ∧ (∀ x, p x = false)
  norow : ¬CondemnsRow s o → ∀ x, p x = true → o.error.lane ≠ none ∧ x.lane = o.error.lane

theorem deliver_marks {s : State} {o : Occurrence} (hm : MapOk s.map) : ∃ p u, DeliverMarks s o p u := by
  obtain ⟨u, hu, h⟩ := deliver_cases hm
  have row1 : ∀ x : MapEntry, MapEntry.inRow o.array o.row x = true ↔ x.array = o.array ∧
    x.row = o.row := by simp [MapEntry.inRow]
  have lane1 : ∀ (x : MapEntry) l, MapEntry.inLane o.array l x = true ↔ x.array = o.array ∧
    x.lane = some l := by simp [MapEntry.inLane]
  by_cases hl : ∃ l, CondemnsLane s o l
  · obtain ⟨l, hl⟩ := hl
    have hlane : o.error.lane = some l := by rw [hl.1]; rfl
    have huniq : ∀ k, CondemnsLane s o k → k = l := by
      intro k hk; have := hk.1; rw [hl.1] at this; cases this; rfl
    by_cases hr : CondemnsRow s o
    · have hd := (h _ (fun _ => rfl) (fun hn => absurd hr hn)).1 l hl
      refine ⟨fun x => MapEntry.inRow o.array o.row x || MapEntry.inLane o.array l x, u, hu, ?_, ?_, ?_, ?_, ?_, ?_,
        ?_, ?_⟩
      · intro x hx
        rw [Bool.or_eq_true, row1, lane1] at hx
        rcases hx with hx | hx
        · exact ⟨hx.1, .inl hx.2⟩
        · exact ⟨hx.1, .inr ⟨by rw [hlane]; simp, by rw [hlane]; exact hx.2⟩⟩
      · intro j
        rw [hd, condemnLane_map, condemnRow_map, slot_condemnWhere, slot_condemnWhere]
        cases u.map.slot j with
        | none => rfl
        | some x =>
          simp only [Option.map_some, Option.some.injEq]
          by_cases h1 : MapEntry.inRow o.array o.row x = true
          · simp only [h1, if_true, Bool.true_or]
            split <;> rfl
          · simp only [h1, Bool.false_or]
            rfl
      · rw [hd, condemnLane_map, condemnRow_map]; rfl
      · intro n h4 h6
        rw [hd]
        rcases condemnLane_flags o.array l (condemnRow o.array o.row u) with e | e <;> rw [e] <;>
        rcases condemnRow_flags o.array o.row u with e' | e' <;> rw [e'] <;> simp only [getLsbD_or_condemned,
          getLsbD_or_noSpare] <;> simp [h4, h6]
      · intro _
        refine ⟨fun x h1 h2 => by simp [(row1 x).2 ⟨h1, h2⟩], ?_⟩
        rw [hd]
        rcases condemnLane_flags o.array l (condemnRow o.array o.row u) with e | e <;> rw [e] <;>
          simp only [getLsbD_or_condemned] <;> simp
      · intro k hk
        have := huniq k hk; subst this
        refine ⟨fun x h1 h2 => by simp [(lane1 x k).2 ⟨h1, h2⟩], ?_⟩
        rw [hd]
        rcases condemnLane_flags o.array k (condemnRow o.array o.row u) with e | e <;> rw [e] <;>
          simp only [getLsbD_or_condemned] <;> simp
      · intro h1; exact absurd hr h1
      · intro h1; exact absurd hr h1
    · have hd := (h _ (fun hn => absurd hn hr) (fun _ => rfl)).1 l hl
      refine ⟨fun x => MapEntry.inLane o.array l x, u, hu, ?_, ?_, ?_, ?_, ?_, ?_, ?_, ?_⟩
      · intro x hx
        rw [lane1] at hx
        exact ⟨hx.1, .inr ⟨by rw [hlane]; simp, by rw [hlane]; exact hx.2⟩⟩
      · intro j
        rw [hd, condemnLane_map, slot_condemnWhere]
      · rw [hd, condemnLane_map]; rfl
      · intro n h4 h6
        rw [hd]
        rcases condemnLane_flags o.array l u with e | e <;> rw [e] <;> simp only [getLsbD_or_condemned,
          getLsbD_or_noSpare] <;> simp [h4, h6]
      · intro h1; exact absurd h1 hr
      · intro k hk
        have := huniq k hk; subst this
        refine ⟨fun x h1 h2 => by simp [(lane1 x k).2 ⟨h1, h2⟩], ?_⟩
        rw [hd]
        rcases condemnLane_flags o.array k u with e | e <;> rw [e] <;> simp only [getLsbD_or_condemned] <;> simp
      · intro _ h2; exact absurd hl (h2 l)
      · intro _ x hx; rw [lane1] at hx; rw [hlane]; exact ⟨by simp, hx.2⟩
  · have hl : ∀ l, ¬CondemnsLane s o l := fun l h => hl ⟨l, h⟩
    by_cases hr : CondemnsRow s o
    · have hd := (h _ (fun _ => rfl) (fun hn => absurd hr hn)).2 hl
      refine ⟨fun x => MapEntry.inRow o.array o.row x, u, hu, ?_, ?_, ?_, ?_, ?_, ?_, ?_, ?_⟩
      · intro x hx; rw [row1] at hx; exact ⟨hx.1, .inl hx.2⟩
      · intro j; rw [hd, condemnRow_map, slot_condemnWhere]
      · rw [hd, condemnRow_map]; rfl
      · intro n h4 h6
        rw [hd]
        rcases condemnRow_flags o.array o.row u with e | e <;> rw [e] <;> simp only [getLsbD_or_condemned,
          getLsbD_or_noSpare] <;> simp [h4, h6]
      · intro _
        refine ⟨fun x h1 h2 => by simp [(row1 x).2 ⟨h1, h2⟩], ?_⟩
        rw [hd]
        rcases condemnRow_flags o.array o.row u with e | e <;> rw [e] <;> simp only [getLsbD_or_condemned] <;> simp
      · intro k hk; exact absurd hk (hl k)
      · intro h1; exact absurd hr h1
      · intro h1; exact absurd hr h1
    · have hd := (h _ (fun hn => absurd hn hr) (fun _ => rfl)).2 hl
      refine ⟨fun _ => false, u, hu, ?_, ?_, ?_, ?_, ?_, ?_, ?_, ?_⟩
      · intro x hx; cases hx
      · intro j; rw [hd]; cases u.map.slot j <;> rfl
      · rw [hd]
      · intro n _ _; rw [hd]
      · intro h1; exact absurd h1 hr
      · intro k hk; exact absurd hk (hl k)
      · intro _ _; exact ⟨hd, fun _ => rfl⟩
      · intro _ x hx; cases hx

/-- What reaches the two repair blocks: the row condemnation in `u`, then the lane condemnation in `v`. -/
theorem deliver_engines {s : State} {o : Occurrence} (hm : MapOk s.map) : ∃ u v w : State,
    u.subs = s.subs ∧ u.steer = s.steer ∧ u.turns = s.turns ∧ u.params = s.params ∧
    u.alert.flags.getLsbD 6 = s.alert.flags.getLsbD 6 ∧
    (CondemnsRow s o → v.subs = (condemnRowEngine true o.array o.row u).1.subs ∧
      v.turns = (condemnRowEngine true o.array o.row u).1.turns ∧
      v.alert.flags.getLsbD 6 = (condemnRowEngine true o.array o.row u).1.alert.flags.getLsbD 6) ∧
    (¬CondemnsRow s o →
      v.subs = u.subs ∧ v.turns = u.turns ∧ v.alert.flags.getLsbD 6 = u.alert.flags.getLsbD 6) ∧
    v.steer = u.steer ∧ v.params = u.params ∧
    (∀ l, CondemnsLane s o l → w = (condemnLaneEngine true o.array l v).1 ∧ (deliver o s).turns = w.turns ∧
      (deliver o s).alert.flags.getLsbD 6 = w.alert.flags.getLsbD 6 ∧ (deliver o s).steer = w.steer) ∧
    ((∀ l, ¬CondemnsLane s o l) → (deliver o s).turns = v.turns ∧
      (deliver o s).alert.flags.getLsbD 6 = v.alert.flags.getLsbD 6 ∧ (deliver o s).steer = v.steer) ∧
    (deliver o s).subs = v.subs := by
  obtain ⟨u0, hu, h⟩ := deliver_cases (o := o) hm
  obtain ⟨r1, r2, r3, r4, r5⟩ := hu.same
  have r6 := r5 6 (by decide) (error_flag_bit o.error).2.2.1.symm
  by_cases hr : CondemnsRow s o
  · have h := h _ (fun _ => rfl) (fun hn => absurd hr hn)
    let u : State := { u0 with map := u0.map.condemnWhere (MapEntry.inRow o.array o.row) }
    have hv : (condemnRow o.array o.row u0).subs = (condemnRowEngine true o.array o.row u).1.subs ∧
      (condemnRow o.array o.row u0).turns = (condemnRowEngine true o.array o.row u).1.turns ∧
      (condemnRow o.array o.row u0).alert.flags.getLsbD 6 =
        (condemnRowEngine true o.array o.row u).1.alert.flags.getLsbD 6 ∧
      (condemnRow o.array o.row u0).steer = u.steer ∧ (condemnRow o.array o.row u0).params = u.params := by
      unfold condemnRow
      refine ⟨by rw [raise_subs], by rw [raise_turns], noSpare_raise_condemned _,
        by rw [raise_steer, condemnRowEngine_steer], by rw [raise_params, (condemnRowEngine_same ..).params]⟩
    by_cases hl : ∃ l, CondemnsLane s o l
    · obtain ⟨l, hl⟩ := hl
      have hd := h.1 l hl
      let v : State := { condemnRow o.array o.row u0 with
        map := (condemnRow o.array o.row u0).map.condemnWhere (MapEntry.inLane o.array l) }
      refine ⟨u, v, (condemnLaneEngine true o.array l v).1, r1, r2, r3, r4, r6, fun _ => ⟨hv.1, hv.2.1, hv.2.2.1⟩,
        fun hn => absurd hr hn, hv.2.2.2.1, hv.2.2.2.2, ?_, ?_, ?_⟩
      · intro k hk
        have : k = l := by have := hk.1; rw [hl.1] at this; cases this; rfl
        subst this
        rw [hd]; unfold condemnLane
        exact ⟨rfl, by rw [raise_turns], noSpare_raise_condemned _, by rw [raise_steer]⟩
      · intro hn; exact absurd hl (hn l)
      · rw [hd]; unfold condemnLane; rw [raise_subs, condemnLaneEngine_subs]
    · have hl : ∀ l, ¬CondemnsLane s o l := fun l h => hl ⟨l, h⟩
      have hd := h.2 hl
      refine ⟨u, condemnRow o.array o.row u0, u, r1, r2, r3, r4, r6, fun _ => ⟨hv.1, hv.2.1, hv.2.2.1⟩,
        fun hn => absurd hr hn, hv.2.2.2.1, hv.2.2.2.2, ?_, ?_, ?_⟩
      · intro k hk; exact absurd hk (hl k)
      · intro _; rw [hd]; exact ⟨rfl, rfl, rfl⟩
      · rw [hd]
  · have h := h _ (fun hn => absurd hn hr) (fun _ => rfl)
    by_cases hl : ∃ l, CondemnsLane s o l
    · obtain ⟨l, hl⟩ := hl
      have hd := h.1 l hl
      let v : State := { u0 with map := u0.map.condemnWhere (MapEntry.inLane o.array l) }
      refine ⟨u0, v, (condemnLaneEngine true o.array l v).1, r1, r2, r3, r4, r6, fun hn => absurd hn hr,
        fun _ => ⟨rfl, rfl, rfl⟩, rfl, rfl, ?_, ?_, ?_⟩
      · intro k hk
        have : k = l := by have := hk.1; rw [hl.1] at this; cases this; rfl
        subst this
        rw [hd]; unfold condemnLane
        exact ⟨rfl, by rw [raise_turns], noSpare_raise_condemned _, by rw [raise_steer]⟩
      · intro hn; exact absurd hl (hn l)
      · rw [hd]; unfold condemnLane; rw [raise_subs, condemnLaneEngine_subs]
    · have hl : ∀ l, ¬CondemnsLane s o l := fun l h => hl ⟨l, h⟩
      have hd := h.2 hl
      refine ⟨u0, u0, u0, r1, r2, r3, r4, r6, fun hn => absurd hn hr, fun _ => ⟨rfl, rfl, rfl⟩, rfl, rfl, ?_, ?_, ?_⟩
      · intro k hk; exact absurd hk (hl k)
      · intro _; rw [hd]; exact ⟨rfl, rfl, rfl⟩
      · rw [hd]

end Sys2Proof.Machine
end

