-- ==== Sys2Proof/Laws/Link.lean ====
section
/-! SUPPORT. The link: what a row of a link command does when its frame will be executed, argument bytes as numbers, numbers
as bytes. -/

namespace Sys2Proof.Machine

/-- Setting the receiver to what it is changes nothing. -/
theorem setReceiver_self {s : State} {r : Receiver} (h : s.link.receiver = r) : setReceiver r s = s := by
  subst h; rfl

/-- Each row of a link command is that command's frame arriving. -/
theorem exec_row (c : LinkCommand) (q : Byte) (args : List Byte) (s : State) :
    exec (c.row q args) s = commandRow c (commandEffect c) q args s := by
  cases c <;> rfl

/-- A frame that can arrive whole is dealt with (R179, R185). -/
theorem frameArrives_whole {q code : Byte} {args : List Byte} {next : State → State} {s : State}
    (h0 : s.path.path ≠ .hold) (h1 : args.length ≤ 12) (h2 : s.link.receiver = .awaitMarker) :
    frameArrives q code args next s = next s := by
  simp [frameArrives, h0, argsFit, h1, h2, Receiver.accepts, setReceiver_self h2]

/-- In HOLD no frame arrives (R188). -/
theorem frameArrives_hold {q code : Byte} {args : List Byte} {next : State → State} {s : State}
    (h : s.path.path = .hold) : frameArrives q code args next s = s := by
  simp [frameArrives, h]

/-- Under a lock every good frame is answered BUSY (R185 test 1). -/
theorem dealGood_busy {q : Byte} {f : State → State} {s : State} {l : Lock} (h : s.link.lock = some l) :
    dealGood q f s = respond ⟨q, .busy, []⟩ s := by
  simp [dealGood, h]

/-- The stored sequence is answered with the stored response (R185 test 2, R186). -/
theorem dealGood_retry {q : Byte} {f : State → State} {s : State} {r : Response} (h : s.link.lock = none)
    (hs : s.link.store = some r) (hq : r.seq = q) : dealGood q f s = respond r s := by
  simp [dealGood, h, hs, hq]

/-- Any other good frame is executed (R185 test 3). -/
theorem dealGood_executes {q : Byte} {f : State → State} {s : State} (h : s.link.lock = none)
    (hs : s.link.store.map Response.seq ≠ some q) : dealGood q f s = f s := by
  unfold dealGood
  rw [h]
  cases hr : s.link.store with
  | none => rfl
  | some r =>
    rw [hr] at hs
    have : r.seq ≠ q := by simpa using hs
    simp [this]

/-- A frame that will be executed, with the argument bytes its command takes, has the command's effect (R189). -/
theorem exec_row_executes {c : LinkCommand} {q : Byte} {args : List Byte} {s : State} (h : WillExecute q args s)
    (hl : c.argBytes ≤ args.length) : exec (c.row q args) s = .next (commandEffect c q args s) := by
  obtain ⟨h0, h1, h2, h3, h4⟩ := h
  rw [exec_row, commandRow, frameArrives_whole h0 h1 h2, dealGood_executes h3 h4, executeCommand,
    if_neg (by omega)]

/-- A reply of an executed command is `State.withReply`. -/
theorem reply_eq (q : Byte) (st : LinkStatus) (b : List Byte) (s : State) : reply q st b s = s.withReply q st b := rfl

/-! ## Argument bytes as numbers (R193, R194) -/

theorem argNat_0_1 (b : Byte) (l : List Byte) : argNat (b :: l) 0 1 = b.toNat := by simp [argNat, beNat]

theorem argNat_1_1 (b c : Byte) (l : List Byte) : argNat (b :: c :: l) 1 1 = c.toNat := by simp [argNat, beNat]

theorem argNat_2_1 (b c d : Byte) (l : List Byte) : argNat (b :: c :: d :: l) 2 1 = d.toNat := by simp [argNat, beNat]

theorem argNat_3_1 (b c d e : Byte) (l : List Byte) : argNat (b :: c :: d :: e :: l) 3 1 = e.toNat := by
  simp [argNat, beNat]

theorem argNat_0_2 (b c : Byte) (l : List Byte) : argNat (b :: c :: l) 0 2 = b.toNat * 256 + c.toNat := by
  simp [argNat, beNat]

theorem argNat_1_2 (b c d : Byte) (l : List Byte) : argNat (b :: c :: d :: l) 1 2 = c.toNat * 256 + d.toNat := by
  simp [argNat, beNat]

theorem argNat_3_2 (a b c d e : Byte) (l : List Byte) :
    argNat (a :: b :: c :: d :: e :: l) 3 2 = d.toNat * 256 + e.toNat := by
  simp [argNat, beNat]

theorem argNat_1_4 (a b c d e : Byte) (l : List Byte) : argNat (a :: b :: c :: d :: e :: l) 1 4 =
    b.toNat * 16777216 + c.toNat * 65536 + d.toNat * 256 + e.toNat := by
  simp [argNat, beNat]
  omega

/-! ## Numbers as bytes (R193) -/

theorem beBytes_two (n : Nat) : beBytes 2 n = [BitVec.ofNat 8 (n / 256), BitVec.ofNat 8 n] := by simp [beBytes]

theorem beBytes_four (n : Nat) : beBytes 4 n =
    [BitVec.ofNat 8 (n / 16777216), BitVec.ofNat 8 (n / 65536), BitVec.ofNat 8 (n / 256), BitVec.ofNat 8 n] := by
  simp [beBytes]

theorem beBytes_length (w n : Nat) : (beBytes w n).length = w := by
  induction w with
  | zero => rfl
  | succ w ih => simp [beBytes, ih]

end Sys2Proof.Machine
end

