-- ==== Sys2Proof/Laws/Memory.lean ====
section
/-! SUPPORT. The list of stored words: reading after writing, the canonical form, and what the turns' writes leave alone. -/

namespace Sys2Proof.Machine

/-- Distinct words have distinct keys (R17). -/
theorem memKey_eq_iff (a b : ArrayNo) (i j : PhysIndex) : memKey b j = memKey a i ↔ b = a ∧ j = i := by
  have := a.isLt
  have := b.isLt
  simp only [memKey, Fin.ext_iff]
  omega

/-- What a list holds under a key after a write. -/
theorem memFind_memPut (k k' : Nat) (w : Stored) (m : List (Nat × Stored)) :
    memFind k' (memPut k w m) = if k' = k then some w else memFind k' m := by
  induction m with
  | nil => simp [memPut, memFind]
  | cons x m ih =>
    obtain ⟨y, v⟩ := x
    simp only [memPut]
    split
    · simp [memFind]
    · split
      · subst_vars; simp [memFind]; split <;> simp_all
      · simp only [memFind, ih]
        split <;> simp_all
        intro h; omega

/-- A write adds no key but its own. -/
theorem mem_memPut {k : Nat} {w : Stored} {m : List (Nat × Stored)} {x : Nat × Stored} (h : x ∈ memPut k w m) :
    x = (k, w) ∨ x ∈ m := by
  induction m with
  | nil => simpa [memPut] using h
  | cons y m ih =>
    obtain ⟨y, v⟩ := y
    simp only [memPut] at h
    split at h
    · simpa using h
    · split at h
      · rcases List.mem_cons.1 h with h | h
        · exact .inl h
        · exact .inr (List.mem_cons_of_mem _ h)
      · rcases List.mem_cons.1 h with rfl | h
        · simp
        · exact (ih h).imp_right (List.mem_cons_of_mem _)

/-- A write keeps the canonical form. -/
theorem memPut_wf (k : Nat) (w : Stored) (m : List (Nat × Stored)) (h : Memory.wf m) : Memory.wf (memPut k w m) := by
  induction m with
  | nil => simp [memPut, Memory.wf]
  | cons y m ih =>
    obtain ⟨y, v⟩ := y
    obtain ⟨h1, h2⟩ := List.pairwise_cons.1 h
    simp only [memPut]
    split
    · refine List.pairwise_cons.2 ⟨fun x hx => ?_, h⟩
      rcases List.mem_cons.1 hx with rfl | hx
      · assumption
      · exact Nat.lt_trans ‹k < y› (h1 x hx)
    · split
      · subst_vars
        exact List.pairwise_cons.2 ⟨h1, h2⟩
      · refine List.pairwise_cons.2 ⟨fun x hx => ?_, ih h2⟩
        rcases mem_memPut hx with rfl | hx
        · show y < k
          omega
        · exact h1 x hx

theorem setWord_wf (a : ArrayNo) (i : PhysIndex) (w : Stored) (s : State) (h : Memory.wf s.mem) :
    Memory.wf (s.setWord a i w).mem := memPut_wf _ _ _ h

theorem disturb_wf (a : ArrayNo) (i : PhysIndex) (flips : Stored) (s : State) (h : Memory.wf s.mem) :
    Memory.wf (disturb a i flips s).mem := by
  unfold disturb
  split
  · exact h
  · exact memPut_wf _ _ _ h

theorem setWords_wf (a : ArrayNo) (w : Stored) (is : List PhysIndex) (s : State) (h : Memory.wf s.mem) :
    Memory.wf (setWords a w is s).mem := by
  induction is generalizing s with
  | nil => exact h
  | cons i is ih => exact ih _ (setWord_wf a i w s h)

theorem repairWrite_wf (a : ArrayNo) (i : PhysIndex) (r : SteerRecord) (d : Decoded) (s : State)
    (h : Memory.wf s.mem) : Memory.wf (repairWrite a i r d s).mem := by
  unfold repairWrite
  split
  · exact memPut_wf _ _ _ h
  all_goals exact h

/-- The state right after reset lists no word, which is the canonical form. -/
theorem reset_mem_wf : Memory.wf State.reset.mem := List.Pairwise.nil

/-- What a disturbed array reads as: the lanes of one word have changed. -/
theorem disturb_word_self (a : ArrayNo) (i : PhysIndex) (flips : Stored) (s : State) :
    (disturb a i flips s).word a i = s.word a i ^^^ flips := by
  unfold disturb
  split
  · subst_vars; simp
  · simp [State.word, memFind_memPut, State.setWord]

end Sys2Proof.Machine
end

