-- ==== Sys2Proof/Laws/PerInstr.lean ====
section
/-! SUPPORT. One law for each constructor of `Instr`, as syntax: a row that is a link command's frame is well formed exactly
when its argument bytes fit a frame, its command code names that command and no other, and no other frame of a command spells
the same row (12.2, 13.4, R189). The host splits the cases. -/

namespace Sys2Proof

/-- What is said of every command: if it is the row of a link command's frame, that command, its sequence and its argument
bytes are the only ones it is the row of, it is well formed when the bytes fit, and its code is read back as it. -/
def Laws.FrameOfRow.Statement (i : Instr) : Prop :=
  ∀ (c : LinkCommand) (q : Byte) (args : List Byte), i = c.row q args →
    (i.wellFormed = argsFit args ∧ LinkCommand.ofCode c.code = some c) ∧
    ∀ (c' : LinkCommand) (q' : Byte) (args' : List Byte), i = c'.row q' args' → c' = c ∧ q' = q ∧ args' = args

/-- The code of every link command is read back as it (13.4). -/
theorem ofCode_code (c : LinkCommand) : LinkCommand.ofCode c.code = some c := by cases c <;> decide

/-- The row of a link command's frame is well formed exactly when its argument bytes fit (12.2). -/
theorem row_wellFormed (c : LinkCommand) (q : Byte) (args : List Byte) : (c.row q args).wellFormed = argsFit args := by
  cases c <;> rfl

/-- The row tells the command. -/
theorem row_command {c c' : LinkCommand} {q q' : Byte} {args args' : List Byte} (h : c.row q args = c'.row q' args') :
    c' = c := by
  cases c <;> cases c' <;> first | rfl | (simp only [LinkCommand.row, reduceCtorEq] at h)

/-- The row tells the sequence and the argument bytes. -/
theorem row_operands {c : LinkCommand} {q q' : Byte} {args args' : List Byte} (h : c.row q args = c.row q' args') :
    q' = q ∧ args' = args := by
  cases c <;> (cases h; exact ⟨rfl, rfl⟩)

/-- The law for every command at once; the lemmas below are its cases. -/
theorem frameOfRow (i : Instr) : Laws.FrameOfRow.Statement i := by
  intro c q args h
  subst h
  refine ⟨⟨row_wellFormed c q args, ofCode_code c⟩, fun c' q' args' h => ?_⟩
  obtain rfl := row_command h
  exact ⟨rfl, row_operands h⟩

theorem Laws.FrameOfRow.powerOn : Laws.FrameOfRow.Statement .powerOn := frameOfRow _
theorem Laws.FrameOfRow.supplyDip : Laws.FrameOfRow.Statement .supplyDip := frameOfRow _
theorem Laws.FrameOfRow.holdEnd : Laws.FrameOfRow.Statement .holdEnd := frameOfRow _
theorem Laws.FrameOfRow.busResetAsserted : Laws.FrameOfRow.Statement .busResetAsserted := frameOfRow _
theorem Laws.FrameOfRow.busResetReleased : Laws.FrameOfRow.Statement .busResetReleased := frameOfRow _
theorem Laws.FrameOfRow.supplyWarningAsserted : Laws.FrameOfRow.Statement .supplyWarningAsserted := frameOfRow _
theorem Laws.FrameOfRow.supplyWarningReleased : Laws.FrameOfRow.Statement .supplyWarningReleased := frameOfRow _
theorem Laws.FrameOfRow.retentionExitEnd : Laws.FrameOfRow.Statement .retentionExitEnd := frameOfRow _
theorem Laws.FrameOfRow.wakeEnd : Laws.FrameOfRow.Statement .wakeEnd := frameOfRow _
theorem Laws.FrameOfRow.quietEntryComplete : Laws.FrameOfRow.Statement .quietEntryComplete := frameOfRow _
theorem Laws.FrameOfRow.drainToFrozen : Laws.FrameOfRow.Statement .drainToFrozen := frameOfRow _
theorem Laws.FrameOfRow.readRequest (tag : BitVec 4) (addr : BitVec 28) : Laws.FrameOfRow.Statement (.readRequest tag addr) := frameOfRow _
theorem Laws.FrameOfRow.writeRequest (addr : BitVec 28) (mask : Byte) (data : Data) (parity : Byte) : Laws.FrameOfRow.Statement (.writeRequest addr mask data parity) := frameOfRow _
theorem Laws.FrameOfRow.requestWeighedAgain : Laws.FrameOfRow.Statement .requestWeighedAgain := frameOfRow _
theorem Laws.FrameOfRow.turnGrant (array : ArrayNo) : Laws.FrameOfRow.Statement (.turnGrant array) := frameOfRow _
theorem Laws.FrameOfRow.hostReadComplete (array : ArrayNo) (flips : Stored) : Laws.FrameOfRow.Statement (.hostReadComplete array flips) := frameOfRow _
theorem Laws.FrameOfRow.drainComplete (array : ArrayNo) (flips : Stored) : Laws.FrameOfRow.Statement (.drainComplete array flips) := frameOfRow _
theorem Laws.FrameOfRow.peekTurnComplete (array : ArrayNo) (flips : Stored) : Laws.FrameOfRow.Statement (.peekTurnComplete array flips) := frameOfRow _
theorem Laws.FrameOfRow.copyTurnComplete (array : ArrayNo) (flips : Stored) : Laws.FrameOfRow.Statement (.copyTurnComplete array flips) := frameOfRow _
theorem Laws.FrameOfRow.migrateTurnComplete (array : ArrayNo) (flips : Stored) : Laws.FrameOfRow.Statement (.migrateTurnComplete array flips) := frameOfRow _
theorem Laws.FrameOfRow.fillTurnComplete (array : ArrayNo) : Laws.FrameOfRow.Statement (.fillTurnComplete array) := frameOfRow _
theorem Laws.FrameOfRow.scrubTurnComplete (array : ArrayNo) (flips : Stored) : Laws.FrameOfRow.Statement (.scrubTurnComplete array flips) := frameOfRow _
theorem Laws.FrameOfRow.scrubIntervalExpiry : Laws.FrameOfRow.Statement .scrubIntervalExpiry := frameOfRow _
theorem Laws.FrameOfRow.linkGapTimeout : Laws.FrameOfRow.Statement .linkGapTimeout := frameOfRow _
theorem Laws.FrameOfRow.discardingTimeout : Laws.FrameOfRow.Statement .discardingTimeout := frameOfRow _
theorem Laws.FrameOfRow.linkReject (seq code : Byte) (args : List Byte) (check : Byte) : Laws.FrameOfRow.Statement (.linkReject seq code args check) := frameOfRow _
theorem Laws.FrameOfRow.unknown (seq code : Byte) (args : List Byte) : Laws.FrameOfRow.Statement (.unknown seq code args) := frameOfRow _
theorem Laws.FrameOfRow.status (seq : Byte) (args : List Byte) : Laws.FrameOfRow.Statement (.status seq args) := frameOfRow _
theorem Laws.FrameOfRow.getParam (seq : Byte) (args : List Byte) : Laws.FrameOfRow.Statement (.getParam seq args) := frameOfRow _
theorem Laws.FrameOfRow.setParam (seq : Byte) (args : List Byte) : Laws.FrameOfRow.Statement (.setParam seq args) := frameOfRow _
theorem Laws.FrameOfRow.openPort (seq : Byte) (args : List Byte) : Laws.FrameOfRow.Statement (.openPort seq args) := frameOfRow _
theorem Laws.FrameOfRow.closePort (seq : Byte) (args : List Byte) : Laws.FrameOfRow.Statement (.closePort seq args) := frameOfRow _
theorem Laws.FrameOfRow.fill (seq : Byte) (args : List Byte) : Laws.FrameOfRow.Statement (.fill seq args) := frameOfRow _
theorem Laws.FrameOfRow.quiesce (seq : Byte) (args : List Byte) : Laws.FrameOfRow.Statement (.quiesce seq args) := frameOfRow _
theorem Laws.FrameOfRow.wake (seq : Byte) (args : List Byte) : Laws.FrameOfRow.Statement (.wake seq args) := frameOfRow _
theorem Laws.FrameOfRow.restart (seq : Byte) (args : List Byte) : Laws.FrameOfRow.Statement (.restart seq args) := frameOfRow _
theorem Laws.FrameOfRow.readCauses (seq : Byte) (args : List Byte) : Laws.FrameOfRow.Statement (.readCauses seq args) := frameOfRow _
theorem Laws.FrameOfRow.clearCauses (seq : Byte) (args : List Byte) : Laws.FrameOfRow.Statement (.clearCauses seq args) := frameOfRow _
theorem Laws.FrameOfRow.clearFlags (seq : Byte) (args : List Byte) : Laws.FrameOfRow.Statement (.clearFlags seq args) := frameOfRow _
theorem Laws.FrameOfRow.setEnables (seq : Byte) (args : List Byte) : Laws.FrameOfRow.Statement (.setEnables seq args) := frameOfRow _
theorem Laws.FrameOfRow.peek (seq : Byte) (args : List Byte) : Laws.FrameOfRow.Statement (.peek seq args) := frameOfRow _
theorem Laws.FrameOfRow.mapRead (seq : Byte) (args : List Byte) : Laws.FrameOfRow.Statement (.mapRead seq args) := frameOfRow _
theorem Laws.FrameOfRow.mapDelete (seq : Byte) (args : List Byte) : Laws.FrameOfRow.Statement (.mapDelete seq args) := frameOfRow _
theorem Laws.FrameOfRow.mapPurge (seq : Byte) (args : List Byte) : Laws.FrameOfRow.Statement (.mapPurge seq args) := frameOfRow _
theorem Laws.FrameOfRow.condemnRow (seq : Byte) (args : List Byte) : Laws.FrameOfRow.Statement (.condemnRow seq args) := frameOfRow _
theorem Laws.FrameOfRow.subCancel (seq : Byte) (args : List Byte) : Laws.FrameOfRow.Statement (.subCancel seq args) := frameOfRow _
theorem Laws.FrameOfRow.subLoad (seq : Byte) (args : List Byte) : Laws.FrameOfRow.Statement (.subLoad seq args) := frameOfRow _
theorem Laws.FrameOfRow.spareRetire (seq : Byte) (args : List Byte) : Laws.FrameOfRow.Statement (.spareRetire seq args) := frameOfRow _
theorem Laws.FrameOfRow.subRead (seq : Byte) (args : List Byte) : Laws.FrameOfRow.Statement (.subRead seq args) := frameOfRow _
theorem Laws.FrameOfRow.spareRead (seq : Byte) (args : List Byte) : Laws.FrameOfRow.Statement (.spareRead seq args) := frameOfRow _
theorem Laws.FrameOfRow.condemnLane (seq : Byte) (args : List Byte) : Laws.FrameOfRow.Statement (.condemnLane seq args) := frameOfRow _
theorem Laws.FrameOfRow.laneCancel (seq : Byte) (args : List Byte) : Laws.FrameOfRow.Statement (.laneCancel seq args) := frameOfRow _
theorem Laws.FrameOfRow.laneLoad (seq : Byte) (args : List Byte) : Laws.FrameOfRow.Statement (.laneLoad seq args) := frameOfRow _
theorem Laws.FrameOfRow.laneRead (seq : Byte) (args : List Byte) : Laws.FrameOfRow.Statement (.laneRead seq args) := frameOfRow _
theorem Laws.FrameOfRow.scrubRead (seq : Byte) (args : List Byte) : Laws.FrameOfRow.Statement (.scrubRead seq args) := frameOfRow _
theorem Laws.FrameOfRow.byteArrives (byte : Byte) : Laws.FrameOfRow.Statement (.byteArrives byte) := frameOfRow _
theorem Laws.FrameOfRow.responseSent : Laws.FrameOfRow.Statement .responseSent := frameOfRow _

end Sys2Proof
end

