-- ==== Sys2Proof/Tests/Slice0.lean ====
section
/-! SUPPORT. Tests of the model against the worked examples of the spec (each test names its section), the smoke test of
WellFormed, and, for each statement with hypotheses, a concrete state and operands that meet them. -/

namespace Sys2Proof.Tests

set_option maxRecDepth 20000
set_option Elab.async false

open Sys2Proof Sys2Proof.Machine

/-! ## Helpers -/

/-- Two arrays installed, in a path state. -/
def base (p : PathState) (r : ResumeState) : State :=
  { State.reset with
    params := { Params.default with arrays := .two }
    path := { State.reset.path with path := p, resume := r } }

/-- What holds of the state a command leads to. -/
def after (o : Host.Outcome State Fault Refusal) (p : State → Bool) : Bool :=
  match o with
  | .next t => p t
  | .fault _ => false
  | .refused _ => false

/-- Commands one after another. -/
def run : List Instr → State → Host.Outcome State Fault Refusal
  | [], s => .next s
  | c :: cs, s =>
    match exec c s with
    | .next t => run cs t
    | .fault f => .fault f
    | .refused r => .refused r

/-- The last answer at the host memory port. -/
def lastAnswer (s : State) : Option PortAnswer := s.port.answers.getLast?

/-- The last response formed at the link. -/
def lastResponse (s : State) : Option Response := s.link.responses.getLast?

/-! ## WellFormed: an ill-formed term for each check, which the check refuses -/

theorem test_ill_formed_too_many_arguments : Instr.wellFormed (.status 0 (List.replicate 13 0)) = false := by decide
theorem test_ill_formed_reject_with_good_check : Instr.wellFormed (.linkReject 0x01 0x10 [] 0xB3) = false := by decide
theorem test_ill_formed_reject_too_long : Instr.wellFormed (.linkReject 0 0 (List.replicate 13 0) 0) = false := by decide
theorem test_ill_formed_unknown_of_a_command : Instr.wellFormed (.unknown 0 0x10 []) = false := by decide
theorem test_ill_formed_unknown_too_long : Instr.wellFormed (.unknown 0 0x04 (List.replicate 13 0)) = false := by decide
theorem test_well_formed : Instr.wellFormed (.peek 7 [0, 0, 0, 0, 0]) = true ∧ Instr.wellFormed .powerOn = true ∧
    Instr.wellFormed (.linkReject 0x01 0x10 [] 0xB4) = true ∧ Instr.wellFormed (.unknown 0 0x04 []) = true := by decide

/-! ## Chapter 1: the worked decodes (1.8) -/

/-- The word of 1.8: byte 0 is 05h, byte 3 is 80h. -/
def word18 : Data := 0x0000000080000005

theorem test_check_value : dataCheck word18 = 0x68 ∧ checkField word18 false = 0xE9 ∧ checkField word18 true = 0xFD := by
  decide +kernel
theorem test_fixed_data_lane : classify (encode word18 false ^^^ BitVec.twoPow 72 27) = .fixed 27 ∧
    syndrome (encode word18 false ^^^ BitVec.twoPow 72 27) = 0x52 ∧
    delivered (encode word18 false ^^^ BitVec.twoPow 72 27) (.fixed 27) = word18 := by decide +kernel
theorem test_fixed_check_lane : classify (encode word18 false ^^^ BitVec.twoPow 72 69) = .fixed 69 := by decide +kernel
theorem test_poison : classify (encode word18 true) = .poison ∧ parityFails 0xFF word18 0xFE = true := by decide +kernel
theorem test_poison_with_a_changed_lane : classify (encode word18 true ^^^ BitVec.twoPow 72 27) = .fixed 22 ∧
    delivered (encode word18 true ^^^ BitVec.twoPow 72 27) (.fixed 22) = 0x0000000088400005 := by decide +kernel
theorem test_parity_sent : sentParity word18 true = 0xF7 ∧ sentParity word18 false = 0x08 := by decide +kernel
theorem test_fill_pattern : storedWord .normal 0 false = BitVec.twoPow 73 64 ||| BitVec.twoPow 73 71 := by decide +kernel

/-! ## Chapter 2: home locations (R19) and the worked resolution (2.8) -/

theorem test_home_of_the_last_address : homeOf .eight 268435455 = { array := 7, row := 32767, column := 1023 } := by decide
theorem test_home_in_2_8 : homeOf .four 10000003 = { array := 3, row := 2441, column := 416 } := by decide

/-- 2.8 during the copy: entry 0 COPYING from the host row to spare 5, cursor 600. -/
def copying28 : State :=
  setEntry 0 (some { array := 3, hostRow := 2441, phase := .copying .hostRow 600, target := 5, origin := .auto })
    (setSpare 3 5 .inUse { base .opened .opened with params := { Params.default with arrays := .four } })

theorem test_rows_below_the_cursor : readRow copying28 3 2441 416 = 32773 ∧ writeRows copying28 3 2441 416 = [2441, 32773] ∧
    (wordAt 32773 416).map Fin.val = some 33559968 := by decide +kernel
theorem test_rows_at_or_above_the_cursor : readRow copying28 3 2441 700 = 2441 ∧ writeRows copying28 3 2441 700 = [2441] := by
  decide +kernel
theorem test_lane_choice_by_the_cursor : laneChoice (.migrating 27 20000000 .auto) 2500284 = some 27 ∧
    laneChoice (.migrating 27 20000000 .auto) 33559968 = none := by decide

/-! ## Chapter 3: the worked arbitration (3.8), its claims on array 2 -/

/-- One queued write and one WAITING read at array 0, the depth below HIGH-WATER. -/
def twoClaims : State :=
  { base .opened .opened with
    queue := [{ addr := 8, array := 0, data := 0, mask := 1, poisoned := false, mark := 0, inDrain := false }]
    port := { State.reset.port with
      reads := [{ tag := 3, addr := 4, home := homeOf .two 4, place := 1, snapshot := none, inTurn := false }]
      nextPlace := 2 } }

theorem test_read_before_drain : grantChoice twoClaims 0 = some .hostRead := by decide +kernel
theorem test_urgent_drain_first :
    grantChoice { twoClaims with params := { twoClaims.params with highWater := 1 } } 0 = some .drain := by decide +kernel
theorem test_grant_marks_the_read : after (exec (.turnGrant 0) twoClaims) (fun t =>
    t.port.reads.map OutRead.inTurn == [true] && decide (t.turn 0 = some { work := .hostRead 1 2 true, steer := .normal })) =
    true := by decide +kernel

/-! ## Chapter 4: the worked sequence (4.9), its first events -/

/-- 4.9 before event 1: slot 0 holds (0, 9, lane 3), pass 7, two arrays. -/
def start49 : State :=
  { base .opened .opened with
    map := ((FaultMap.emptied.setSlot 0 (some {
      array := 0, row := 9, lane := some 3, occurrences := 1, lastColumn := 0, firstPass := 5, lastPass := 5,
      lastOrigin := .scrub, state := .watch, lastClass := none })).touch 0)
    scrub := { State.reset.scrub with pass := 7 } }

/-- Events 1 to 3 of 4.9. -/
def event3 : State :=
  deliver { array := 1, row := 100, column := 12, error := .fixed 45, origin := .hostRead }
    (deliver { array := 1, row := 2050, column := 500, error := .fixed 45, origin := .hostRead }
      (deliver { array := 1, row := 100, column := 12, error := .fixed 45, origin := .scrub } start49))

theorem test_second_occurrence_is_suspect :
    (event3.map.slot 1).map (fun e => (e.occurrences, e.state, e.lastOrigin)) = some (2, .suspect, .hostRead) ∧
    event3.alert.flags = 1 := by decide +kernel
/-- Event 4 of 4.9: the pass completes. -/
theorem test_aging : (event3.map.aged 7).slot 0 = none ∧ (event3.map.aged 7).recency = [2, 1] ∧
    ((event3.map.aged 7).slot 2).map MapEntry.occurrences = some 1 := by decide +kernel

/-! ## Chapter 5: the worked copy (5.5) -/

/-- 5.5 at the start. -/
def start55 : State :=
  setEntry 0 (some { array := 0, hostRow := 17, phase := .active, target := 0, origin := .loaded })
    (setSpare 0 0 .inUse (setSpare 0 1 .retired (base .opened .opened)))

/-- Event 1 of 5.5: row 4,000 is condemned. -/
theorem test_copy_starts : (deliver { array := 0, row := 4000, column := 9, error := .fault, origin := .hostRead }
      start55).subs.table.get 1 =
    some { array := 0, hostRow := 4000, phase := .copying .hostRow 0, target := 2, origin := .auto } := by decide +kernel

/-- 5.5 after event 4: the cursor at 300. -/
def cursor300 : State :=
  setEntry 1 (some { array := 0, hostRow := 4000, phase := .copying .hostRow 300, target := 2, origin := .auto })
    (setSpare 0 2 .inUse start55)

/-- 5.5, the target fails: spare 2 RETIRED, the copy restarted on spare 3. -/
theorem test_target_fails :
    let t := deliver { array := 0, row := 32770, column := 250, error := .fault, origin := .hostRead } cursor300
    t.spare 0 2 = .retired ∧ t.spare 0 3 = .inUse ∧
    t.subs.table.get 1 =
      some { array := 0, hostRow := 4000, phase := .copying .hostRow 0, target := 3, origin := .auto } := by decide +kernel

/-! ## Chapter 7: the worked walk (7.7) -/

/-- 7.7's table. -/
def walk77 : State :=
  setEntry 0 (some { array := 0, hostRow := 17, phase := .active, target := 0, origin := .auto })
    (setEntry 1 (some { array := 0, hostRow := 4000, phase := .copying .hostRow 500, target := 3, origin := .auto })
      (setSpare 0 0 .inUse (setSpare 0 1 .retired (setSpare 0 3 .inUse (base .opened .opened)))))

theorem test_active_host_row_is_skipped : rowVisited walk77 0 17 = false ∧ rowVisited walk77 0 18 = true := by decide +kernel
theorem test_only_active_targets_are_visited : rowVisited walk77 0 32768 = true ∧ rowVisited walk77 0 32769 = false ∧
    rowVisited walk77 0 32771 = false ∧ scrubRow walk77 0 4000 = 4000 := by decide +kernel

/-! ## Chapter 8: the worked interleaving (8.7) -/

/-- Events 1 to 3 of 8.7: a write to A, a read of A, a write that merges. -/
theorem test_snapshot_and_hold : after (run [.writeRequest 1000 0x03 0xBBAA 0x03, .readRequest 2 1000,
      .writeRequest 1000 0x06 0xDDCC00 0x06] (base .opened .opened)) (fun t =>
    t.queue.map (fun e => (e.data, e.mask, e.poisoned)) == [(0xDDCCAA, 0x07, false)] &&
    t.port.reads.map OutRead.snapshot == [some { mask := 0x03, data := 0xBBAA, poisoned := false }] &&
    decide (drainChoice t 0 = none)) = true := by decide +kernel
/-- Event 4 of 8.7: a write with byte 3 failing parity (odd parity would be 34h). -/
theorem test_poisoned_write : after (exec (.writeRequest 2001 0xFF 0x0807060504030201 0x3C) (base .opened .opened)) (fun t =>
    lastAnswer t == some (.write .takenPoisoned) && t.alert.flags == 4 && t.queue.map WriteEntry.poisoned == [true]) =
    true := by decide +kernel

/-! ## Chapter 9: the worked take sequence (9.7) -/

/-- 9.7 at the start: reads with tags 0 to 6 outstanding. -/
def reads97 : State :=
  { base .opened .opened with port := { State.reset.port with
      reads := (List.range 7).map (fun k => OutRead.mk (BitVec.ofNat 4 k) (BitVec.ofNat 28 k)
        (homeOf .two (BitVec.ofNat 28 k)) k none (k == 0))
      nextPlace := 7 } }

/-- Events 1 and 2 of 9.7: the eighth read joins, the ninth waits for room. -/
theorem test_room : after (run [.readRequest 7 4000, .readRequest 3 10] reads97) (fun t =>
    t.port.reads.length == 8 && t.port.waiting == some (.read 3 10)) = true := by decide +kernel
/-- Event 4 of 9.7: an address out of range. -/
theorem test_range : after (exec (.writeRequest 70000000 0xFF 0 0) reads97) (fun t =>
    lastAnswer t == some (.write .range) && t.alert.flags == 0) = true := by decide +kernel
/-- Event 5 of 9.7: 3Ch with parity bit 0 in byte 2. -/
theorem test_even_byte_is_poisoned : after (exec (.writeRequest 8 0x04 0x3C0000 0) reads97) (fun t =>
    lastAnswer t == some (.write .takenPoisoned) && t.alert.flags == 4) = true := by decide +kernel
/-- Events 6 and 7 of 9.7: a bus reset discards the reads, and a read under it is discarded unanswered. -/
theorem test_bus_reset : after (run [.busResetAsserted, .readRequest 9 10] reads97) (fun t =>
    t.port.reads == [] && t.port.answers == [] && t.path.causes.flags == 5 && t.path.path == .opened) = true := by
  decide +kernel

/-! ## Chapter 10 and 11: the path states and the alerts -/

theorem test_hold_end : after (exec .holdEnd State.reset) (fun t => t.path.path == .setup) = true := by decide
/-- 10.8: QUIESCE with nothing outstanding enters, and the alert condition at stillness begins a wake. -/
theorem test_quiet_entry : after (run [.quiesce 20 [], .quietEntryComplete] (base .opened .opened)) (fun t =>
    t.path.path == .quiet && lastResponse t == some ⟨20, .entered, []⟩) = true := by decide +kernel
theorem test_quiet_entry_wakes : after (run [.setEnables 1 [0x04, 0x00, 0x01], .quiesce 20 [], .linkReject 3 1 [] 0,
      .quietEntryComplete] (base .opened .opened)) (fun t => t.path.path == .waking && t.path.lastQuiet == .entered) =
    true := by decide +kernel
/-- 10.8, other orders: an arrival abandons the entry. -/
theorem test_arrival_abandons : after (run [.quiesce 20 [], .writeRequest 8 0x01 0 0x01] (base .opened .opened)) (fun t =>
    t.path.path == .opened && lastResponse t == some ⟨20, .abandoned, []⟩ && t.queue.length == 1) = true := by decide +kernel
theorem test_supply_warning : after (run [.supplyWarningAsserted, .drainToFrozen, .supplyWarningReleased, .retentionExitEnd]
      (base .opened .opened)) (fun t => t.path.path == .opened && t.alert.flags == 0x200) = true := by decide +kernel
theorem test_supply_dip_is_recorded : after (exec .supplyDip (base .opened .opened)) (fun t =>
    t.path.path == .hold && t.path.causes == { flags := 3, last := .supplyDip }) = true := by decide +kernel
theorem test_wake : after (run [.wake 9 [], .wakeEnd] (base .quiet .opened)) (fun t => t.path.path == .opened) = true := by
  decide +kernel
theorem test_restart : after (exec (.restart 23 []) (base .opened .opened)) (fun t =>
    t.path.path == .setup && t.params.arrays == .two && t.path.causes.last == .restart) = true := by decide +kernel
theorem test_clear_flags : after (exec (.clearFlags 6 [0x00, 0x01]) { base .opened .opened with
      alert := { flags := 0x03, enables := 0, master := false } }) (fun t => t.alert.flags == 2) = true := by decide +kernel
theorem test_read_and_clear_causes : after (run [.readCauses 1 [], .clearCauses 2 [0x01]] (base .opened .opened)) (fun t =>
    t.link.responses.head? == some ⟨1, .ok, [0x01, 0x00]⟩ && t.path.causes.flags == 0) = true := by decide +kernel

/-! ## Chapter 12: frames (12.2, 13.2) and the worked retry sequence (12.8) -/

theorem test_check_byte : crc [0x02, 0x01, 0x10] = 0xB3 ∧ crc [0x02, 0x01, 0x00] = 0xC3 := by decide
theorem test_open_frame_by_bytes : after (run ([0xA5, 0x02, 0x01, 0x10, 0xB3].map Instr.byteArrives) (base .setup .setup))
    (fun t => t.path.path == .opened && (lastResponse t).map Response.bytes == some [0x5A, 0x02, 0x01, 0x00, 0xC3]) =
    true := by decide +kernel
/-- Events 1 to 4 of 12.8: BUSY under the lock, ENTERED, and the stored response to a retry. -/
theorem test_busy_and_retry : after (run [.quiesce 20 [], .status 21 [], .quietEntryComplete, .quiesce 20 []]
      (base .opened .opened)) (fun t => t.link.responses.map (fun r => (r.seq, r.status)) ==
    [(21, .busy), (20, .entered), (20, .entered)]) = true := by decide +kernel
/-- Event 5 of 12.8: a damaged frame. -/
theorem test_link_reject : after (exec (.linkReject 21 0x81 [] 0) (base .quiet .opened)) (fun t =>
    lastResponse t == some ⟨21, .linkReject, []⟩ && t.alert.flags == 0x400 && t.path.path == .quiet) = true := by
  decide +kernel
/-- Event 7 of 12.8: a frame cut off after its length byte. -/
theorem test_gap : after (run [.byteArrives 0xA5, .byteArrives 0x04, .linkGapTimeout] (base .quiet .opened)) (fun t =>
    t.link.receiver == .awaitMarker && t.alert.flags == 0x400 && t.link.responses == []) = true := by decide +kernel
theorem test_bad_length : after (run [.byteArrives 0xA5, .byteArrives 0x0F, .byteArrives 0xA5, .discardingTimeout]
      (base .opened .opened)) (fun t => t.link.receiver == .awaitMarker && t.alert.flags == 0x400) = true := by decide +kernel
theorem test_unknown : after (exec (.unknown 1 0x04 []) (base .opened .opened)) (fun t =>
    lastResponse t == some ⟨1, .unknown, []⟩) = true := by decide +kernel
theorem test_response_sent : after (run [.status 1 [], .responseSent] (base .opened .opened)) (fun t =>
    t.link.responses == []) = true := by decide +kernel

/-! ## Chapter 13: results (13.6), and the remaining commands of the link -/

theorem test_status : after (exec (.status 1 []) (base .opened .opened)) (fun t =>
    lastResponse t == some ⟨1, .ok, [3, 3, 0, 1, 0, 0, 0, 0, 0, 0, 0, 0, 0, 0, 0]⟩) = true := by decide +kernel
theorem test_get_param : after (exec (.getParam 1 [8]) (base .opened .opened)) (fun t =>
    lastResponse t == some ⟨1, .ok, [8, 0, 0, 0, 12]⟩) = true := by decide +kernel
theorem test_set_param : after (run [.setParam 1 [0, 0, 0, 0, 8], .setParam 2 [0, 0, 0, 0, 3]] (base .setup .setup)) (fun t =>
    t.params.arrays == .eight && lastResponse t == some ⟨2, .badArgument, []⟩) = true := by decide +kernel
theorem test_scrub_interval : after (run [.setParam 1 [7, 0, 0, 0, 10], .scrubIntervalExpiry] (base .opened .opened))
    (fun t => t.scrub.claim && t.scrub.timer == 10) = true := by decide +kernel
theorem test_open_close : after (run [.openPort 1 [], .closePort 2 [], .fill 3 []] (base .setup .setup)) (fun t =>
    t.path.path == .filling && t.scrub.fill == some { array := 0, index := 0 }) = true := by decide +kernel
theorem test_fill_turn : after (run [.fill 3 [], .turnGrant 0, .fillTurnComplete 0] (base .setup .setup)) (fun t =>
    t.word 0 0 == storedWord .normal 0 false && t.scrub.fill == some { array := 0, index := 1 }) = true := by decide +kernel
/-- PEEK of a filled word: lanes 64 and 71 at one, class GOOD (13.6). -/
theorem test_peek : after (run [.fill 3 [], .turnGrant 0, .fillTurnComplete 0, .peek 4 [0, 0, 0, 0, 0], .turnGrant 0,
      .peekTurnComplete 0 0] (base .setup .setup)) (fun t =>
    lastResponse t == some ⟨4, .ok, [0, 0, 0, 0, 0, 0, 0, 0, 0x81, 0, 0]⟩) = true := by decide +kernel
/-- A host read of a filled word with lane 3 failed: FIXED with the data, the word repaired, the occurrence recorded. -/
theorem test_host_read : after (run [.readRequest 5 0, .turnGrant 0, .hostReadComplete 0 (BitVec.twoPow 73 3)]
      ((base .opened .opened).setWord 0 0 (storedWord .normal 0 false))) (fun t =>
    lastAnswer t == some (.read 5 0 0xFF .fixed) && t.word 0 0 == storedWord .normal 0 false && t.alert.flags == 1 &&
    (t.map.slot 0).map MapEntry.lane == some (some 3)) = true := by decide +kernel
/-- A partial drain over a word of zeros that reads BLANK writes it poisoned (R38). -/
theorem test_drain : after (run [.writeRequest 8 0x01 0x11 0x01, .turnGrant 0, .drainComplete 0 0]
      ((base .opened .opened).setWord 0 4 0)) (fun t =>
    t.queue == [] && t.word 0 4 == storedWord .normal 0x11 true && t.alert.flags == 2) = true := by decide +kernel
theorem test_copy_turn : after (run [.turnGrant 0, .copyTurnComplete 0 0]
      (cursor300.setWord 0 4096300 (storedWord .normal word18 false))) (fun t =>
    t.word 0 33556780 == storedWord .normal word18 false &&
    (t.subs.table.get 1).map SubEntry.phase == some (.copying .hostRow 301)) = true := by decide +kernel
theorem test_migrate_turn : after (run [.condemnLane 1 [0, 0], .turnGrant 0, .migrateTurnComplete 0 0]
      ((base .opened .opened).setWord 0 0 (storedWord .normal word18 false))) (fun t =>
    t.word 0 0 == storedWord (.steered 0 .host) word18 false && t.steerOf 0 == .migrating 0 1 .host) = true := by
  decide +kernel
theorem test_scrub_turn : after (run [.setParam 1 [7, 0, 0, 0, 1], .scrubIntervalExpiry, .turnGrant 0,
      .scrubTurnComplete 0 (BitVec.twoPow 73 27)] ((base .opened .opened).setWord 0 0 (storedWord .normal word18 false)))
    (fun t => t.word 0 0 == storedWord .normal word18 false && t.scrub.cursor == { array := 0, row := 0, column := 1 } &&
      t.alert.flags == 1) = true := by decide +kernel
theorem test_map_read_and_delete : after (run [.mapRead 1 [0], .mapDelete 2 [0], .mapRead 3 [0], .mapPurge 4 []] start49)
    (fun t => t.link.responses.map Response.status == [.ok, .ok, .empty, .ok] &&
      t.link.responses.head?.map Response.result == some [1, 0, 0, 9, 3, 1, 0, 0, 0, 5, 0, 5, 3, 0, 1, 0]) = true := by
  decide +kernel
theorem test_condemn_row : after (run [.condemnRow 1 [0, 0, 5], .subRead 2 [0], .subCancel 3 [0], .spareRead 4 [0]]
      (base .opened .opened)) (fun t => t.link.responses.map (fun r => (r.status, r.result)) ==
    [(.accepted, []), (.ok, [1, 0, 0, 5, 0x80, 0, 0, 0, 2]), (.ok, []), (.ok, List.replicate 16 0)]) = true := by
  decide +kernel
theorem test_sub_load : after (run [.subLoad 1 [0, 0x10, 0x01, 3], .spareRetire 2 [0, 4], .spareRead 3 [0], .subRead 4 [0]]
      (base .setup .setup)) (fun t => t.link.responses.map Response.result ==
    [[], [], [0, 0, 0, 1, 2, 0, 0, 0, 0, 0, 0, 0, 0, 0, 0, 0], [2, 0, 0x10, 0x01, 0xFF, 3, 0xFF, 0xFF, 3]]) = true := by
  decide +kernel
theorem test_lanes : after (run [.laneLoad 1 [0, 70], .laneRead 2 [0], .laneCancel 3 [0], .laneCancel 4 [1]]
      (base .setup .setup)) (fun t => t.link.responses.map (fun r => (r.status, r.result)) ==
    [(.ok, []), (.ok, [2, 70, 3, 0xFF, 0xFF, 0xFF, 0xFF]), (.badArgument, []), (.empty, [])]) = true := by decide +kernel
theorem test_scrub_read : after (exec (.scrubRead 1 []) (base .opened .opened)) (fun t =>
    lastResponse t == some ⟨1, .ok, [0, 0, 0, 0, 0, 0, 0, 0, 0xFF, 0xFF, 0xFF, 0xFF, 0xFF]⟩) = true := by decide +kernel

/-! ## Witnesses: states and operands that meet the hypotheses of the statements, clause by clause, at the ends of ranges -/

/-- A state with something in every table: a stored word, a queued write, an outstanding read, an entry of the map, a copy,
a migration, a STEERED record, a RETIRED spare, a flag, and a command waiting. -/
def rich : State :=
  setSteer 1 (.steered 71 .host) (setSteer 0 (.migrating 0 33570815 .auto) (setSpare 1 15 .retired
    { twoClaims with
      subs := cursor300.subs
      mem := [(0, storedWord .normal 0 false)]
      map := start49.map
      alert := { flags := 0x3, enables := 0x4, master := true }
      scrub := { State.reset.scrub with cursor := { array := 1, row := 32783, column := 1023 } }
      pending := [.scrubIntervalExpiry] }))

theorem witness_StepRunsFrontCommand : rich.pending = .scrubIntervalExpiry :: [] ∧ State.reset.pending = [] ∧
    exec .scrubIntervalExpiry rich = .next rich := ⟨rfl, rfl, rfl⟩

/-- The premises of every StepsKeep statement and of StepsNeverStop, together. -/
theorem witness_StepsKeep : Inv rich ∧ step rich = .next { rich with pending := [] } := by
  refine ⟨⟨?_, ?_, ?_, ?_, ?_, ?_, ?_, ?_, ?_, ?_⟩, rfl⟩ <;> decide +kernel

theorem witness_FlagsStaySetUntilCleared : exec .scrubIntervalExpiry rich = .next rich ∧
    (∀ q args, Instr.scrubIntervalExpiry ≠ .clearFlags q args) ∧ (∀ q args, Instr.scrubIntervalExpiry ≠ .restart q args) ∧
    (∀ b, Instr.scrubIntervalExpiry ≠ .byteArrives b) ∧ Instr.scrubIntervalExpiry ≠ .powerOn ∧
    Instr.scrubIntervalExpiry ≠ .supplyDip ∧ rich.alert.flags.getLsbD AlertFlag.fixed.bit = true := by
  refine ⟨rfl, ?_, ?_, ?_, ?_, ?_, by decide⟩ <;> intros <;> exact Instr.noConfusion

/-- `rich` with all of a STATUS frame but its check gathered: its check completes a frame of code 01h, and another byte no
frame. -/
theorem witness_completedCode :
    completedCode (crc [2, 1, 1]) (setReceiver (.inFrame [2, 1, 1]) rich) = some 0x01 ∧
    completedCode 0 (setReceiver (.inFrame [2, 1, 1]) rich) = none ∧
    completedCode (crc [4, 1, 0x20, 7, 255]) (setReceiver (.inFrame [4, 1, 0x20, 7, 255]) rich) = some 0x20 ∧
    (∃ t, exec (.byteArrives (crc [2, 1, 1])) (setReceiver (.inFrame [2, 1, 1]) rich) = .next t) ∧
    (setReceiver (.inFrame [2, 1, 1]) rich).alert.flags.getLsbD AlertFlag.fixed.bit = true := by
  refine ⟨by decide +kernel, by decide +kernel, by decide +kernel, ⟨_, rfl⟩, by decide +kernel⟩

theorem witness_SteeredAndRetiredStay : rich.steerOf 1 = .steered 71 .host ∧ SubsOk rich ∧ rich.spare 1 15 = .retired :=
  ⟨by decide, witness_StepsKeep.1.2.2.2.1, by decide⟩

theorem witness_WordsAndParametersChangeByTheirCommands : exec .scrubIntervalExpiry rich = .next rich ∧
    (∀ a, Instr.scrubIntervalExpiry ≠ .fillTurnComplete a) ∧
    (∀ a f, Instr.scrubIntervalExpiry ≠ .hostReadComplete a f ∧ Instr.scrubIntervalExpiry ≠ .drainComplete a f ∧
      Instr.scrubIntervalExpiry ≠ .peekTurnComplete a f ∧ Instr.scrubIntervalExpiry ≠ .copyTurnComplete a f ∧
      Instr.scrubIntervalExpiry ≠ .migrateTurnComplete a f ∧ Instr.scrubIntervalExpiry ≠ .scrubTurnComplete a f) ∧
    (∀ q args, Instr.scrubIntervalExpiry ≠ .setParam q args ∧ Instr.scrubIntervalExpiry ≠ .restart q args) ∧
    (∀ b, Instr.scrubIntervalExpiry ≠ .byteArrives b) :=
  ⟨rfl, fun _ => Instr.noConfusion, fun _ _ => ⟨Instr.noConfusion, Instr.noConfusion, Instr.noConfusion,
    Instr.noConfusion, Instr.noConfusion, Instr.noConfusion⟩,
    fun _ _ => ⟨Instr.noConfusion, Instr.noConfusion⟩, fun _ => Instr.noConfusion⟩

theorem witness_LaneCodesAndExtremeWords : (0x5B : Byte) ∉ laneCodes ∧ onesOdd 0x5B = true ∧ (0 : Byte) ∉ laneCodes := by
  decide +kernel

theorem witness_TwoFlippedLanesAreNeverGood : (0 : CodedLane) ≠ 71 := by decide

theorem witness_SteeredWordsReadAsWrittenOrCharged : (71 : CodedLane) ≠ 0 ∧
    (SteerRecord.migrating 0 1 .auto = .migrating 0 1 .auto ∧ 0 < 1) := by decide

theorem witness_ByteParityIsOdd : 0 < 8 ∧ 7 < 8 := by decide

theorem witness_HomeLocations : inRange .one 0 = true ∧ inRange .one 33554431 = true ∧ inRange .one 33554432 = false ∧
    inRange .eight 268435455 = true := by decide

theorem witness_RowsByTheTables_none (i : Fin 32) (e : SubEntry) :
    State.reset.subs.table.get i = some e → ¬(e.array = 0 ∧ e.hostRow = 0) := by
  revert i
  have : ∀ i : Fin 32, State.reset.subs.table.get i = none := by decide
  intro i h
  rw [this i] at h
  cases h

/-- A re-target: spare 0 the source, spare 1 the target. -/
def retargeting : State :=
  setEntry 0 (some { array := 0, hostRow := 17, phase := .copying (.spare 0) 1023, target := 15, origin := .auto })
    (setSpare 0 0 .inUse (setSpare 0 15 .inUse (base .opened .opened)))

theorem start55_ok : SubsOk start55 := by decide +kernel
theorem retargeting_ok : SubsOk retargeting := by decide +kernel
theorem cursor300_ok : SubsOk cursor300 := by decide +kernel
theorem start49_ok : MapOk start49.map := by decide +kernel

theorem witness_RowsByTheTables : SubsOk copying28 ∧
    copying28.subs.table.get 0 = some { array := 3, hostRow := 2441, phase := .copying .hostRow 600, target := 5,
                                        origin := .auto } ∧
    599 < 600 ∧ 600 ≤ 600 ∧
    SubsOk start55 ∧
    start55.subs.table.get 0 = some { array := 0, hostRow := 17, phase := .active, target := 0,
                                                       origin := .loaded } := by
  refine ⟨?_, ?_, ?_, ?_, start55_ok, ?_⟩ <;> decide +kernel

theorem witness_RowsByTheTables_spare : SubsOk retargeting ∧
    retargeting.subs.table.get 0 =
      some { array := 0, hostRow := 17, phase := .copying (.spare 0) 1023, target := 15, origin := .auto } ∧
    1022 < 1023 ∧ 1023 ≤ 1023 := by
  refine ⟨retargeting_ok, ?_, ?_, ?_⟩ <;> decide +kernel

/-! ### Lines and path states -/

theorem witness_HoldAndWakeEnd :
    State.reset.path.path = .hold ∧ State.reset.port.waiting = none ∧ State.reset.link.lock = none ∧
    State.reset.busReset = false ∧ State.reset.supplyWarning = false ∧
    { State.reset with supplyWarning := true }.path.path = .hold ∧ { State.reset with busReset := true }.path.path = .hold ∧
    (base .waking .opened).path.path = .waking ∧ (base .waking .opened).port.waiting = none ∧
    (keepWaiting (.read 0 0) (base .waking .opened)).port.waiting = some (.read 0 0) ∧
    (base .waking .opened).path.resume = .opened ∧ (base .waking .setup).path.resume ≠ .opened ∧
    (base .waking .setup).busReset = false := by decide

/-- ENTERING-QUIET with its QUIESCE withheld. -/
def entering : State :=
  { base .enteringQuiet .opened with
    link := { State.reset.link with lock := some { seq := 20, command := .quiesce } } }

theorem witness_BusResetLine : State.reset.busReset = false ∧ State.reset.path.path = .hold ∧
    entering.busReset = false ∧ entering.path.path ≠ .hold ∧ entering.path.path = .enteringQuiet ∧
    entering.link.lock = some { seq := 20, command := .quiesce } ∧
    (base .quiet .opened).path.path ≠ .enteringQuiet ∧ (base .quiet .opened).path.path ≠ .hold := by decide

/-- OPEN with a PEEK claim waiting. -/
def peekWaiting : State :=
  { base .opened .opened with
    link := { State.reset.link with lock := some { seq := 7, command := .peek 0 33570815 false } } }

/-- A state under the supply warning. -/
def warned (p : PathState) (x : Bool) : State :=
  { base p .opened with supplyWarning := true, path := { (base p .opened).path with retentionExit := x } }

theorem witness_SupplyWarningDrainsAndReleases :
    ((base .opened .opened).supplyWarning = false ∧ (base .opened .opened).busReset = false ∧
      (base .opened .opened).path.path = .opened ∧ (base .opened .opened).port.waiting = none ∧
      (base .opened .opened).link.lock = none) ∧
    (keepWaiting (.write 0 1 0 0) (base .opened .opened)).port.waiting = some (.write 0 1 0 0) ∧
    peekWaiting.link.lock = some { seq := 7, command := .peek 0 33570815 false } ∧
    (entering.path.path = .enteringQuiet ∧ entering.port.waiting = none ∧ entering.supplyWarning = false) ∧
    (State.reset.path.path = .hold ∧ State.reset.supplyWarning = false ∧ State.reset.busReset = false) ∧
    ((base .frozen .opened).path.path = .frozen ∧ (base .frozen .opened).supplyWarning = false) ∧
    ((warned .draining false).path.path = .draining ∧ (warned .draining false).port.waiting = none ∧
      (warned .draining false).supplyWarning = true) ∧
    (warned .frozen false).path.path = .frozen ∧ (warned .hold false).path.path = .hold ∧
    (base .frozen .opened).port.waiting = none ∧ (warned .frozen true).path.retentionExit = true := by decide

/-- A PEEK already granted. -/
def peekGranted : State :=
  { peekWaiting with link := { State.reset.link with lock := some { seq := 7, command := .peek 0 33570815 true } } }

/-- A waiting request beside a waiting PEEK; a PEEK already granted; a waiting request under an asserted bus reset line. -/
theorem witness_SupplyWarning_waiting :
    ((keepWaiting (.read 0 0) peekWaiting).port.waiting = some (.read 0 0) ∧
      (keepWaiting (.read 0 0) peekWaiting).link.lock = some { seq := 7, command := .peek 0 33570815 false }) ∧
    (peekGranted.link.lock = some { seq := 7, command := .peek 0 33570815 true } ∧ peekGranted.path.path = .opened ∧
      peekGranted.supplyWarning = false) ∧
    { keepWaiting (.read 0 0) (base .waking .opened) with busReset := true }.port.waiting = some (.read 0 0) ∧
    after (exec .supplyWarningAsserted { keepWaiting (.read 0 0) (base .waking .opened) with busReset := true })
      (fun t => t.path.path == .draining && t.port.answers.isEmpty) = true := by decide +kernel

/-- Log 28: under an asserted bus reset line an arrival in QUIET begins no wake. -/
theorem test_discarded_arrival_begins_no_wake :
    exec (.readRequest 0 0) { base .quiet .opened with busReset := true } =
      .next { base .quiet .opened with busReset := true } := rfl

theorem witness_StillnessCompletes : entering.path.path = .enteringQuiet ∧ still entering = true ∧
    entering.link.lock = some { seq := 20, command := .quiesce } ∧
    (warned .draining false).path.path = .draining ∧ still (warned .draining false) = true ∧ still twoClaims = false := by
  decide +kernel

/-! ### The host memory port -/

theorem witness_RequestsByPathState :
    (Request.read 0 0 = .read 0 0 ∧ Instr.readRequest 0 0 = .readRequest 0 0) ∧
    ({ State.reset with busReset := true }.port.waiting = none ∧ { State.reset with busReset := true }.busReset = true) ∧
    State.reset.path.path = .hold ∧
    ((base .frozen .opened).busReset = false ∧ (base .frozen .opened).path.path = .frozen ∧
      (base .frozen .opened).port.waiting = none) ∧
    (base .quiet .opened).path.path = .quiet ∧ (base .waking .opened).path.path = .waking ∧
    (entering.port.waiting = none ∧ entering.busReset = false ∧ entering.path.path = .enteringQuiet) ∧
    (keepWaiting (.write 0 1 0 0) (base .waking .opened)).port.waiting = some (.write 0 1 0 0) ∧
    ((keepWaiting (.read 15 67108863) (base .opened .opened)).port.waiting = some (.read 15 67108863) ∧
      (keepWaiting (.read 15 67108863) (base .opened .opened)).port.reads.length < 8 ∧
      (∀ r ∈ (keepWaiting (.read 15 67108863) (base .opened .opened)).port.reads, r.tag ≠ 15) ∧
      (67108863 : BitVec 28).toNat < (base .opened .opened).params.arrays.count * 33554432 ∧
      queueFind (base .opened .opened).queue 67108863 = none) := by
  refine ⟨⟨rfl, rfl⟩, ?_⟩
  decide

/-- Queues for the tests of the port: a partial-mask entry, a full-mask entry, an entry in drain. -/
def entryAt (w : BitVec 28) (mask : Byte) (inDrain : Bool) : WriteEntry :=
  { addr := w, array := (homeOf .two w).array, data := 0, mask := mask, poisoned := false, mark := 0, inDrain := inDrain }

theorem witness_ReadsAreWeighedInOrder :
    ((base .opened .opened).path.path = .opened ∧ (base .opened .opened).busReset = false ∧
      (base .opened .opened).port.waiting = none) ∧
    8 ≤ (joinList 7 4000 none reads97).port.reads.length ∧ reads97.port.reads.length < 8 ∧
    (∃ r ∈ reads97.port.reads, r.tag = 6) ∧ (∀ r ∈ reads97.port.reads, r.tag ≠ 7) ∧
    (base .opened .opened).params.arrays.count * 33554432 ≤ (67108864 : BitVec 28).toNat ∧
    (67108863 : BitVec 28).toNat < (base .opened .opened).params.arrays.count * 33554432 ∧
    queueFind [entryAt 8 0xFF false] 8 = some (entryAt 8 0xFF false) ∧ (entryAt 8 0xFF false).mask = 0xFF ∧
    queueFind [] 8 = none ∧ queueFind [entryAt 8 0x7F true] 8 = some (entryAt 8 0x7F true) ∧
    (entryAt 8 0x7F true).mask ≠ 0xFF := by decide

theorem witness_WritesAreWeighedInOrder :
    (base .opened .opened).params.arrays.count * 33554432 ≤ (67108864 : BitVec 28).toNat ∧
    (67108863 : BitVec 28).toNat < (base .opened .opened).params.arrays.count * 33554432 ∧ (1 : Byte) ≠ 0 ∧
    (queueFind [entryAt 8 1 true] 8 = some (entryAt 8 1 true) ∧ (entryAt 8 1 true).inDrain = true) ∧
    (queueFind [entryAt 8 1 false] 8 = some (entryAt 8 1 false) ∧ (entryAt 8 1 false).inDrain = false) ∧
    (queueFind ((List.range 16).map (fun k => entryAt (BitVec.ofNat 28 k) 1 false)) 16 = none ∧
      16 ≤ ((List.range 16).map (fun k => entryAt (BitVec.ofNat 28 k) 1 false)).length) ∧
    (queueFind ((List.range 15).map (fun k => entryAt (BitVec.ofNat 28 k) 1 false)) 16 = none ∧
      ((List.range 15).map (fun k => entryAt (BitVec.ofNat 28 k) 1 false)).length < 16) := by decide

/-! ### Grants and completions -/

/-- OPEN with a turn in progress at array 0. -/
def inTurn (w : TurnWork) : State := (base .opened .opened).setTurn 0 (some { work := w, steer := .normal })

theorem witness_GrantsFollowPrecedence : (inTurn (.peek 0)).turn 0 = some { work := .peek 0, steer := .normal } ∧
    (∀ k : TurnKind, (permits State.reset.path.path k && claimWaiting State.reset 0 k) = false) ∧
    (twoClaims.turn 0 = none ∧ ¬(twoClaims.params.highWater ≤ twoClaims.queue.length ∨ twoClaims.path.path = .draining ∨
        twoClaims.path.path = .enteringQuiet) ∧
      [TurnKind.hostRead, .drain, .peek, .copy, .migrate, .fill, .scrub] =
        [] ++ .hostRead :: [.drain, .peek, .copy, .migrate, .fill, .scrub] ∧
      permits twoClaims.path.path .hostRead = true ∧ claimWaiting twoClaims 0 .hostRead = true) := by
  refine ⟨by decide, fun k => by cases k <;> rfl, by decide +kernel⟩

/-- Claims of every kind, at an installed array and at one that is not. -/
theorem witness_GrantsFollowPrecedence_claims :
    twoClaims.params.arrays.count ≤ (2 : ArrayNo).val ∧ (1 : ArrayNo).val < twoClaims.params.arrays.count ∧
    claimWaiting twoClaims 0 .drain = true ∧ claimWaiting peekWaiting 0 .peek = true ∧
    claimWaiting cursor300 0 .copy = true ∧ claimWaiting (setSteer 0 (.migrating 0 0 .auto) twoClaims) 0 .migrate = true ∧
    claimWaiting (startFill (base .filling .filling)) 0 .fill = true := by decide +kernel

/-- `twoClaims` with its read at the queued address, which holds an entry merged into since (R133). -/
def heldClaim : State :=
  { twoClaims with port := { twoClaims.port with
      reads := [{ tag := 3, addr := 8, home := homeOf .two 8, place := 1, snapshot := none, inTurn := false }] } }

theorem witness_ClaimantsChooseByTheirRules : ReadsOk twoClaims ∧ (∀ r ∈ twoClaims.port.reads, WaitsAt 0 r) ∧
    (∀ e ∈ twoClaims.queue, Eligible twoClaims e) ∧ (∀ e ∈ twoClaims.queue, ¬Eligible heldClaim { e with mark := 2 }) ∧
    SubsOk cursor300 ∧ freeSpare cursor300 0 = some 3 ∧ freeEntry cursor300 = some 2 ∧
    (entryFor cursor300 0 17).map Prod.fst = some 0 ∧ entryFor cursor300 0 18 = none ∧
    scrubRow cursor300 0 17 = 32768 ∧ scrubRow cursor300 0 4000 = 4000 ∧ scrubRow retargeting 0 17 = 32768 := by
  refine ⟨?_, ?_, ?_, ?_, cursor300_ok, ?_, ?_, ?_, ?_, ?_, ?_, ?_⟩ <;> decide +kernel

theorem witness_GrantedTurnsAreFixed_read : grantChoice twoClaims 0 = some .hostRead ∧
    readChoice twoClaims 0 =
      some { tag := 3, addr := 4, home := homeOf .two 4, place := 1, snapshot := none, inTurn := false } ∧
    wordAt (readRow twoClaims 0 0 2) 2 = some 2 := by decide +kernel

/-- twoClaims with its drain urgent. -/
def urgent : State := { twoClaims with params := { twoClaims.params with highWater := 1 } }

theorem witness_GrantedTurnsAreFixed_drain : grantChoice urgent 0 = some .drain ∧
    drainChoice urgent 0 =
      some { addr := 8, array := 0, data := 0, mask := 1, poisoned := false, mark := 0, inDrain := false } ∧
    wordAt (readRow urgent 0 0 4) 4 = some 4 ∧ wordsAt 4 (writeRows urgent 0 0 4) = some [4] := by decide +kernel

theorem witness_GrantedTurnsAreFixed_peek : grantChoice peekWaiting 0 = some .peek ∧
    peekWaiting.link.lock = some { seq := 7, command := .peek 0 33570815 false } := by decide +kernel

theorem witness_GrantedTurnsAreFixed_copy : grantChoice cursor300 0 = some .copy ∧
    copyChoice cursor300 0 = some (1, { array := 0, hostRow := 4000, phase := .copying .hostRow 300, target := 2,
                                        origin := .auto }) ∧
    (300 : Column).val = 300 ∧ (4096300 : PhysIndex).val = 4000 * 1024 + 300 ∧
    (33556780 : PhysIndex).val = spareRow 2 * 1024 + 300 := by decide +kernel

/-- A migration at its last index. -/
def lastMigration : State := setSteer 0 (.migrating 71 33570815 .auto) (base .opened .opened)

theorem witness_GrantedTurnsAreFixed_migrate : grantChoice lastMigration 0 = some .migrate ∧
    lastMigration.steerOf 0 = .migrating 71 (33570815 : PhysIndex).val .auto := by decide +kernel

/-- A fill at its first index. -/
def filling : State := startFill (base .filling .filling)

theorem witness_GrantedTurnsAreFixed_fill : grantChoice filling 0 = some .fill ∧
    filling.scrub.fill = some { array := 0, index := 0 } := by decide +kernel

/-- A SCRUB claim at the last word of the walk. -/
def scrubbing : State :=
  { base .opened .opened with
    scrub := { State.reset.scrub with cursor := { array := 1, row := 32783, column := 1023 }, claim := true } }

theorem witness_GrantedTurnsAreFixed_scrub : grantChoice scrubbing 1 = some .scrub ∧
    wordAt (scrubRow scrubbing 1 scrubbing.scrub.cursor.row) scrubbing.scrub.cursor.column = some 33570815 := by decide +kernel

/-- A read granted, with a snapshot and without. -/
def readInTurn (snap : Option Snapshot) : State :=
  { inTurn (.hostRead 1 2 true) with port := { State.reset.port with
      reads := [{ tag := 3, addr := 4, home := homeOf .two 4, place := 1, snapshot := snap, inTurn := true }]
      nextPlace := 2 } }

theorem witness_HostReadCompletes : (readInTurn none).turn 0 = some { work := .hostRead 1 2 true, steer := .normal } ∧
    (readInTurn none).port.reads.find? (fun y => y.place == 1) =
      some { tag := 3, addr := 4, home := homeOf .two 4, place := 1, snapshot := none, inTurn := true } ∧
    (readInTurn (some { mask := 1, data := 0, poisoned := true })).port.reads.find? (fun y => y.place == 1) =
      some { tag := 3, addr := 4, home := homeOf .two 4, place := 1,
             snapshot := some { mask := 1, data := 0, poisoned := true }, inTurn := true } ∧
    (inTurn (.hostRead 1 2 true)).port.reads.find? (fun y => y.place == 1) = none := by decide

theorem witness_DrainCompletes :
    (inTurn (.drain 8 0 0xFF false 4 [4])).turn 0 = some { work := .drain 8 0 0xFF false 4 [4], steer := .normal } ∧
    (inTurn (.drain 8 0 0x7F false 33558532 [4, 33558532])).turn 0 =
      some { work := .drain 8 0 0x7F false 33558532 [4, 33558532], steer := .normal } ∧ (0x7F : Byte) ≠ 0xFF ∧
    (4 : PhysIndex) ∉ [33558532] := by decide

/-- A copy in hand for entry 1 of `cursor300`, at a column, with its source word GOOD. -/
def copyAt (c : Column) (sw tw : PhysIndex) : State :=
  (setEntry 1 (some { array := 0, hostRow := 4000, phase := .copying .hostRow c.val, target := 2, origin := .auto })
    cursor300).setWord 0 sw (storedWord .normal 0 false) |>.setTurn 0
      (some { work := .copy { entry := 1, source := .hostRow, target := 2, column := c, void := false } sw tw
              steer := .normal })

theorem witness_CopyTurnCompletes :
    (copyAt 1022 4097022 33557502).turn 0 = some {
      work := .copy { entry := 1, source := .hostRow, target := 2, column := 1022, void := false } 4097022 33557502
      steer := .normal } ∧
    (decodeNow (copyAt 1022 4097022 33557502) 0 4097022 .normal 0).error = none ∧
    (copyAt 1022 4097022 33557502).subs.table.get 1 =
      some { array := 0, hostRow := 4000, phase := .copying .hostRow 1022, target := 2, origin := .auto } ∧
    (decodeNow (copyAt 1023 4097023 33557503) 0 4097023 .normal 0).error = none ∧
    (copyAt 1023 4097023 33557503).subs.table.get 1 =
      some { array := 0, hostRow := 4000, phase := .copying .hostRow 1023, target := 2, origin := .auto } ∧
    (4097022 : PhysIndex) ≠ 33557502 ∧
    (inTurn (.copy { entry := 1, source := .hostRow, target := 2, column := 0, void := true } 0 1)).turn 0 = some {
      work := .copy { entry := 1, source := .hostRow, target := 2, column := 0, void := true } 0 1
      steer := .normal } := by decide +kernel

/-- A FAULT at the source: reported, and the entry still stands and the copy in hand with it. -/
theorem witness_CopyTurnCompletes_fault :
    (decodeNow (copyAt 1022 4097022 33557502) 0 4097022 .normal 3).error = some .fault ∧
    SubsOk (copyAt 1022 4097022 33557502) ∧ (4097022 : PhysIndex).val / 1024 = 4000 ∧
    (report 0 4097022 .copy (decodeNow (copyAt 1022 4097022 33557502) 0 4097022 .normal 3)
        (copyAt 1022 4097022 33557502)).subs.table.get 1 =
      some { array := 0, hostRow := 4000, phase := .copying .hostRow 1022, target := 2, origin := .auto } ∧
    after (exec (.copyTurnComplete 0 3) (copyAt 1022 4097022 33557502)) (fun t => t.subs.table.get 1 ==
      some { array := 0, hostRow := 4000, phase := .copying .hostRow 1023, target := 2, origin := .auto }) = true := by
  decide +kernel

/-- A migration in hand at an index, with its word GOOD. -/
def migrationAt (i : PhysIndex) : State :=
  (setSteer 0 (.migrating 0 i.val .auto) (base .opened .opened)).setWord 0 i (storedWord .normal 0 false) |>.setTurn 0
    (some { work := .migrate 0 i false, steer := .migrating 0 i.val .auto })

theorem witness_MigrateTurnCompletes :
    (migrationAt 33570814).turn 0 =
      some { work := .migrate 0 33570814 false, steer := .migrating 0 33570814 .auto } ∧
    (decodeNow (migrationAt 33570814) 0 33570814 (.migrating 0 33570814 .auto) 0).error = none ∧
    (migrationAt 33570814).steerOf 0 = .migrating 0 33570814 .auto ∧
    (decodeNow (migrationAt 33570815) 0 33570815 (.migrating 0 33570815 .auto) 0).error = none ∧
    (migrationAt 33570815).steerOf 0 = .migrating 0 33570815 .auto ∧
    (inTurn (.migrate 0 5 true)).turn 0 = some { work := .migrate 0 5 true, steer := .normal } := by decide +kernel

/-- A FAULT at the index: reported, and the record still MIGRATING. -/
theorem witness_MigrateTurnCompletes_fault :
    (decodeNow (migrationAt 33570814) 0 33570814 (.migrating 0 33570814 .auto) 3).error = some .fault ∧
    33570814 ≤ (33570814 : PhysIndex).val ∧
    (report 0 33570814 .migrate (decodeNow (migrationAt 33570814) 0 33570814 (.migrating 0 33570814 .auto) 3)
      (migrationAt 33570814)).steerOf 0 = .migrating 0 33570814 .auto ∧
    after (exec (.migrateTurnComplete 0 3) (migrationAt 33570814)) (fun t =>
      t.steerOf 0 == .migrating 0 33570815 .auto) = true := by decide +kernel

theorem witness_FillTurnCompletes :
    (inTurn (.fill 0 true)).turn 0 = some { work := .fill 0 true, steer := .normal } ∧
    (inTurn (.fill 33570814 false)).turn 0 = some { work := .fill 33570814 false, steer := .normal } ∧
    (33570815 : PhysIndex).val = (33570814 : PhysIndex).val + 1 ∧
    (inTurn (.fill 33570815 false)).turn 0 = some { work := .fill 33570815 false, steer := .normal } ∧
    (1 : ArrayNo).val = (0 : ArrayNo).val + 1 ∧ installed (inTurn (.fill 33570815 false)) 1 = true ∧
    (base .filling .filling).params.arrays.count ≤ (1 : ArrayNo).val + 1 ∧ (base .filling .filling).path.path = .filling ∧
    (base .draining .filling).path.path = .draining := by decide +kernel

/-- A SCRUB turn in progress at the cursor. -/
def scrubTurnAt (a : ArrayNo) (row column : Nat) (w : PhysIndex) : State :=
  (setCursor { array := a, row := row, column := column } (base .opened .opened)).setWord a w (storedWord .normal 0 false)
    |>.setTurn a (some { work := .scrub w false, steer := .normal })

theorem witness_ScrubTurnCompletes :
    (inTurn (.scrub 0 true)).turn 0 = some { work := .scrub 0 true, steer := .normal } ∧
    (scrubTurnAt 0 0 1022 1022).turn 0 = some { work := .scrub 1022 false, steer := .normal } ∧
    (scrubTurnAt 0 0 1022 1022).scrub.cursor.column < 1023 ∧
    (scrubTurnAt 0 0 1023 1023).turn 0 = some { work := .scrub 1023 false, steer := .normal } ∧
    1023 ≤ (scrubTurnAt 0 0 1023 1023).scrub.cursor.column := by decide +kernel

/-- Row 1 is the next visited row after row 0. -/
theorem witness_ScrubTurnCompletes_next_row :
    seekRow (report 0 1023 .scrub (decodeNow (scrubTurnAt 0 0 1023 1023) 0 1023 .normal 0) (scrubTurnAt 0 0 1023 1023))
      walkFuel 0 1 = some (0, 1) := by decide +kernel

/-- The last row of the last array: the walk ends. -/
theorem witness_ScrubTurnCompletes_end :
    (scrubTurnAt 1 32783 1023 33570815).turn 1 = some { work := .scrub 33570815 false, steer := .normal } ∧
    seekRow (report 1 33570815 .scrub (decodeNow (scrubTurnAt 1 32783 1023 33570815) 1 33570815 .normal 0)
      (scrubTurnAt 1 32783 1023 33570815)) walkFuel 1 32784 = none := by decide +kernel

theorem witness_ScrubVisitsRowsInOrder : (1 : ArrayNo).val < walk77.params.arrays.count ∧ 32784 ≤ 32784 ∧
    seekRow walk77 walkFuel 0 17 = some (0, 18) ∧ seekRow walk77 walkFuel 0 32769 = some (1, 0) ∧
    seekRow walk77 walkFuel 1 32768 = none := by decide +kernel

theorem witness_PassesAndTheInterval : 1023 ≤ rich.scrub.cursor.column ∧
    seekRow rich walkFuel rich.scrub.cursor.array (rich.scrub.cursor.row + 1) = none ∧ rowVisited rich 0 0 = true ∧
    seekRow rich walkFuel 0 0 = some (0, 0) ∧
    State.reset.params.scrubInterval = 0 ∧
    { Params.default with scrubInterval := 65535 }.scrubInterval ≠ 0 := by decide +kernel

/-! ### Occurrences -/

/-- A full map with no WATCH entry. -/
def fullMap : FaultMap :=
  { slots := Vector.ofFn (fun i => some {
      array := 0, row := i.val, lane := some 72, occurrences := 15, lastColumn := 0, firstPass := 0, lastPass := 0,
      lastOrigin := .scrub, state := .suspect, lastClass := none })
    recency := List.finRange 64 }

/-- A FIXED occurrence on lane 3. -/
def fixedAt (row : Nat) : Occurrence := { array := 0, row := row, column := 1023, error := .fixed 3, origin := .scrub }

theorem witness_OccurrencesAreRecorded : MapOk State.reset.map ∧ MapOk start49.map ∧
    (∃ old : MapEntry, start49.map.slot 0 = some old ∧ (fixedAt 9).hasKey old = true) ∧
    (∀ j : Fin 64, State.reset.map.slot j = none) ∧ MapOk fullMap ∧
    (∀ j : Fin 64, (fullMap.slot j).any (fun e => decide (e.state ≠ .watch) && !(fixedAt 100).hasKey e) = true) := by
  refine ⟨by decide +kernel, start49_ok, ⟨_, rfl, by decide⟩, by decide +kernel, by decide +kernel, by decide +kernel⟩

/-- A table with no FREE entry and no FREE spare at arrays 0 and 1. -/
def fullSubs : State :=
  { base .opened .opened with subs := {
      table := Vector.ofFn (fun i => some { array := if i.val < 16 then 0 else 1, hostRow := i.val, phase := .active,
                                            target := Fin.ofNat 16 i.val, origin := .loaded })
      spares := Vector.ofFn (fun a => Vector.replicate 16 (if a.val < 2 then .inUse else .free)) } }

/-- A FAULT at a host row. -/
def faultAt (row : Nat) : Occurrence := { array := 0, row := row, column := 0, error := .fault, origin := .hostRead }

theorem witness_CondemnationsByTheirTriggers_fault :
    (faultAt 32767).error = .fault ∧ (faultAt 32767).row < 32768 ∧ entryFor (base .opened .opened) 0 32767 = none ∧
    (base .opened .opened).params.autoSub = true ∧ freeEntry (base .opened .opened) = some 0 ∧
    freeSpare (base .opened .opened) 0 = some 0 ∧ entryFor fullSubs 0 32767 = none ∧ freeEntry fullSubs = none ∧
    freeSpare fullSubs 0 = none ∧ SubsOk fullSubs := by decide +kernel

/-- The second FIXED occurrence on slot 0 of `start49` makes it SUSPECT; with thresholds of 1 it condemns its row and its
lane. -/
def thresholds (s : State) (suspectAt rowLanes laneRows : Nat) : State :=
  { s with params := { s.params with suspectAt := suspectAt, rowLanes := rowLanes, laneRows := laneRows } }

/-- A FIXED occurrence on lane 72. -/
def fixed72At (row : Nat) : Occurrence := { array := 0, row := row, column := 0, error := .fixed 72, origin := .scrub }

theorem witness_CondemnationsByTheirTriggers_lane :
    MapOk start49.map ∧ BecomesSuspect start49 (fixedAt 9) ∧ lanesSuspect start49 0 9 = 0 ∧ rowsSuspect start49 0 3 = 0 ∧
    ¬CondemnsRow start49 (fixedAt 9) ∧ ¬CondemnsLane start49 (fixedAt 9) 3 ∧
    CondemnsRow (thresholds start49 2 1 1) (fixedAt 9) ∧ CondemnsLane (thresholds start49 2 1 1) (fixedAt 9) 3 ∧
    (3 : PhysLane) = (3 : CodedLane).castSucc ∧ start49.steerOf 0 = .normal ∧ start49.params.autoSteer = true := by
  refine ⟨start49_ok, ?_, ?_, ?_, ?_, ?_, ?_, ?_, ?_, ?_, ?_⟩ <;> decide +kernel

/-- With SUSPECT-AT at 1 a created entry is SUSPECT at once, and condemns at thresholds of 1; in a full map without a WATCH
entry it is not recorded and condemns nothing. -/
theorem witness_BecomesSuspect_at_creation :
    CondemnsRow (thresholds (base .opened .opened) 1 1 16) (fixedAt 5) ∧
    (∀ l : PhysLane, ¬CondemnsLane (thresholds (base .opened .opened) 1 1 16) (fixedAt 5) l) ∧
    ¬BecomesSuspect (base .opened .opened) (fixedAt 5) ∧
    ¬BecomesSuspect (thresholds { base .opened .opened with map := fullMap } 1 1 1) (fixedAt 100) := by
  refine ⟨by decide +kernel, by decide +kernel, by decide +kernel, by decide +kernel⟩

/-- Every case of R76's table: host rows with and without an entry, targets ACTIVE and COPYING, a source, a FREE spare. -/
theorem witness_RowCondemnationsByTheTable :
    MapOk cursor300.map ∧ SubsOk cursor300 ∧ CondemnsRow cursor300 (faultAt 17) ∧ entryFor cursor300 0 5 = none ∧
    (cursor300.subs.table.get 0).map SubEntry.target = some 0 ∧ (faultAt 32768).row = 32768 + (0 : SpareNo).val ∧
    (cursor300.subs.table.get 1).map SubEntry.target = some 2 ∧ (faultAt 32770).row = 32768 + (2 : SpareNo).val ∧
    SubsOk retargeting ∧ (faultAt 32783).row = 32768 + (15 : SpareNo).val ∧
    freeSpare cursor300 0 = some 3 ∧ freeSpare fullSubs 0 = none := by
  refine ⟨by decide +kernel, cursor300_ok, by decide +kernel, by decide +kernel, by decide +kernel, rfl, by decide +kernel,
    rfl, retargeting_ok, rfl, by decide +kernel, by decide +kernel⟩

/-- R99: a condemnation of lane 72 cancels a migration and raises NO-SPARE. -/
theorem witness_LaneCondemnationsByTheRecord :
    CondemnsLane (thresholds (base .opened .opened) 1 8 1) (fixed72At 5) 72 ∧
    CondemnsLane (thresholds (base .opened .opened) 1 8 1) (fixedAt 5) 3 ∧
    ¬CondemnsRow (thresholds (base .opened .opened) 1 8 1) (fixedAt 5) ∧
    namedLane (SteerRecord.migrating 3 0 .auto) = some 3 ∧ namedLane (SteerRecord.steered 71 .auto) = some 71 ∧
    (deliver (fixed72At 5) (thresholds lastMigration 1 8 1)).steerOf 0 = .normal ∧
    (deliver (fixed72At 5) (thresholds lastMigration 1 8 1)).alert.flags = 0x51 := by
  refine ⟨by decide +kernel, by decide +kernel, by decide +kernel, rfl, rfl, by decide +kernel, by decide +kernel⟩

/-- A command that leaves QUIET as it is, and an occurrence that begins a wake there. -/
theorem witness_AlertLineAndWakes :
    alertCondition (base .quiet .opened).alert = false ∧
    step { base .quiet .opened with pending := [.busResetReleased] } = .next (base .quiet .opened) ∧
    (deliver (fixedAt 5) { base .quiet .opened with alert := { flags := 0, enables := 1, master := true } }).path.path =
      .waking ∧
    alertLine { base .quiet .opened with alert := { flags := 1, enables := 1, master := true } } = true := by
  refine ⟨by decide, rfl, by decide +kernel, by decide +kernel⟩

/-! ### The link -/

theorem witness_BytesOfAFrameDoWhatItsRowDoes : (base .setup .setup).path.path ≠ .hold ∧
    (List.replicate 12 (0 : Byte)).length ≤ 12 ∧ (base .setup .setup).link.receiver = .awaitMarker ∧
    LinkCommand.ofCode 0x04 = none ∧ (0 : Byte) ≠ crc (frameBody 1 0x10 []) := by decide

theorem witness_ReceiverTakesBytes : State.reset.path.path = .hold ∧ (base .setup .setup).path.path ≠ .hold ∧
    (base .setup .setup).link.receiver = .awaitMarker ∧ (0xA4 : Byte) ≠ 0xA5 ∧
    (setReceiver (.inFrame []) (base .setup .setup)).link.receiver = .inFrame [] ∧
    ((setReceiver (.inFrame [14]) (base .setup .setup)).link.receiver = .inFrame (14 :: []) ∧
      ([] : List Byte).length < (14 : Byte).toNat) ∧
    ((setReceiver (.inFrame [2, 0]) (base .setup .setup)).link.receiver = .inFrame (2 :: [0]) ∧
      ([0] : List Byte).length < (2 : Byte).toNat) ∧
    (setReceiver .discarding (base .setup .setup)).link.receiver = .discarding ∧
    (0 : Byte) ≠ crc (frameBody 1 0x10 []) := by decide

theorem witness_FramesAreDealtWithInOrder :
    LinkCommand.ofCode 0x71 = none ∧ State.reset.path.path = .hold ∧
    (entering.path.path ≠ .hold ∧ entering.link.receiver = .awaitMarker ∧
      entering.link.lock = some { seq := 20, command := .quiesce }) ∧
    (((base .opened .opened).withReply 20 .ok []).link.lock = none ∧
      ((base .opened .opened).withReply 20 .ok []).link.store = some ⟨20, .ok, []⟩) ∧
    WillExecute 21 [] ((base .opened .opened).withReply 20 .ok []) ∧ ([] : List Byte).length < LinkCommand.peek.argBytes ∧
    (List.replicate 4 (0 : Byte)).length < LinkCommand.peek.argBytes := by decide

theorem witness_EveryGoodFrameIsAnswered : entering.path.path ≠ .hold ∧ (List.replicate 12 (0 : Byte)).length ≤ 12 ∧
    entering.link.receiver = .awaitMarker := by decide

/-- A frame executed, answered DONE with the result bytes of its row. -/
theorem witness_EveryGoodFrameIsAnswered_result : WillExecute 1 [8] (base .setup .setup) ∧
    ∃ t r, exec (LinkCommand.getParam.row 1 [8]) (base .setup .setup) = .next t ∧
      t.link.responses = (base .setup .setup).link.responses ++ [r] ∧ r.status = .ok ∧ r.result.length = 5 := by
  refine ⟨by decide, _, ⟨1, .ok, [8, 0, 0, 0, 12]⟩, rfl, ?_⟩
  decide +kernel

/-- Frames that will be executed: with no argument bytes and with the most. -/
theorem witness_StatusAndGetParamReport : WillExecute 1 [] (base .setup .setup) ∧
    WillExecute 1 (8 :: List.replicate 11 0) (base .frozen .opened) ∧ WillExecute 1 [9] (base .setup .setup) ∧
    8 < (9 : Byte).toNat ∧
    [1, 2, 2, 4, 1, 1, 1, 0, 12][(8 : Byte).toNat]? = some 12 ∧ [1, 2, 2, 4, 1, 1, 1, 0, 12][(0 : Byte).toNat]? = some 1 := by
  decide

theorem witness_ReportsShowTheTables :
    WillExecute 1 [63] start49 ∧ WillExecute 1 [64] start49 ∧ 63 < (64 : Byte).toNat ∧ (63 : Fin 64).val = (63 : Byte).toNat ∧
    start49.map.slot 63 = none ∧ (∃ e, start49.map.slot 0 = some e) ∧ 31 < (32 : Byte).toNat ∧
    (31 : Fin 32).val = (31 : Byte).toNat ∧ cursor300.subs.table.get 31 = none ∧
    WillExecute 1 [1] cursor300 ∧ (cursor300.subs.table.get 1).map SubEntry.phase = some (.copying .hostRow 300) ∧
    (cursor300.subs.table.get 0).map SubEntry.phase = some .active ∧ 7 < (8 : Byte).toNat ∧
    (7 : ArrayNo).val = (7 : Byte).toNat := by
  refine ⟨by decide, by decide, by decide, by decide, by decide, ⟨_, rfl⟩, ?_⟩
  decide +kernel

theorem witness_SetParamSetsParameters :
    WillExecute 1 [0, 0, 0, 0, 8] (base .setup .setup) ∧
    ¬((base .opened .opened).path.path = .setup ∧ (base .opened .opened).queue = [] ∧ (base .opened .opened).port.reads = []) ∧
    ((base .setup .setup).path.path = .setup ∧ (base .setup .setup).queue = [] ∧ (base .setup .setup).port.reads = []) ∧
    (8 : Byte).toNat = ArrayCount.eight.count ∧ (base .setup .setup).scrub.cursor.array.val < ArrayCount.one.count ∧
    ArrayCount.one.count ≤ (setCursor { array := 1, row := 0, column := 0 } (base .setup .setup)).scrub.cursor.array.val ∧
    rowVisited (base .setup .setup) 0 0 = true ∧ ((3 : Byte) ≠ 1 ∧ (3 : Byte) ≠ 2 ∧ (3 : Byte) ≠ 4 ∧ (3 : Byte) ≠ 8) ∧
    WillExecute 1 [7, 0, 0, 0xFF, 0xFF] (base .frozen .opened) ∧ (7 : Byte) ≠ 0 ∧
    65535 = (0 : Byte).toNat * 16777216 + (0 : Byte).toNat * 65536 + (0xFF : Byte).toNat * 256 + (0xFF : Byte).toNat := by
  decide +kernel

theorem witness_PathCommandsMoveThePath :
    WillExecute 1 [] (base .setup .setup) ∧ WillExecute 1 [] (base .opened .opened) ∧
    (base .setup .setup).port.waiting = none ∧ (base .opened .opened).port.waiting = none ∧
    (WillExecute 1 [] (keepWaiting (.read 0 0) (base .opened .opened)) ∧
      (keepWaiting (.read 0 0) (base .opened .opened)).busReset = false) ∧
    (WillExecute 1 [] (base .frozen .opened) ∧ (base .frozen .opened).path.path ≠ .setup ∧
      (base .frozen .opened).path.path ≠ .opened) ∧
    alertCondition (base .opened .opened).alert = false ∧
    alertCondition { flags := 0x400, enables := 0x400, master := true } = true ∧
    WillExecute 1 [] (base .quiet .opened) ∧ WillExecute 1 [] (base .waking .opened) := by decide

theorem witness_RestartApplies : WillExecute 1 [] (base .waking .opened) ∧ (base .waking .opened).path.path ≠ .enteringQuiet ∧
    (base .waking .opened).port.waiting = none ∧
    (keepWaiting (.read 0 0) (base .waking .opened)).port.waiting = some (.read 0 0) ∧
    (keepWaiting (.read 0 0) (base .opened .opened)).path.path = .opened ∧
    WillExecute 1 [] (keepWaiting (.read 0 0) (base .opened .opened)) ∧ (base .opened .opened).busReset = false := by decide

theorem witness_CausesFlagsAndEnables : WillExecute 1 [0xFF] (base .quiet .opened) ∧
    WillExecute 1 [0xFF, 0xFF] (base .quiet .opened) ∧ WillExecute 1 [0x07, 0xFF, 0x01] (base .quiet .opened) := by decide

theorem witness_PeekAnswersTheStoredWord :
    WillExecute 1 [1, 0x80, 0x0F, 0x03, 0xFF] (base .filling .filling) ∧ (base .filling .filling).path.path = .filling ∧
    ((1 : ArrayNo).val = (1 : Byte).toNat ∧ (1 : ArrayNo).val < (base .filling .filling).params.arrays.count ∧
      (0x03 : Byte).toNat * 256 + (0xFF : Byte).toNat ≤ 1023 ∧
      (33570815 : PhysIndex).val = ((0x80 : Byte).toNat * 256 + (0x0F : Byte).toNat) * 1024 +
        ((0x03 : Byte).toNat * 256 + (0xFF : Byte).toNat)) ∧
    (base .filling .filling).params.arrays.count ≤ (2 : Byte).toNat ∧
    32783 < (0x80 : Byte).toNat * 256 + (0x10 : Byte).toNat ∧ 1023 < (0x04 : Byte).toNat * 256 + (0 : Byte).toNat ∧
    (WillExecute 1 [0, 0, 0, 0, 0] (base .quiet .opened) ∧ ¬((base .quiet .opened).path.path = .setup ∨
      (base .quiet .opened).path.path = .filling ∨ (base .quiet .opened).path.path = .opened)) ∧
    ({ inTurn (.peek 33570815) with link := { State.reset.link with
        lock := some { seq := 7, command := .peek 0 33570815 true } } }.turn 0 =
      some { work := .peek 33570815, steer := .normal }) := by decide +kernel

theorem witness_MapEntriesAreDeleted : WillExecute 1 [0] start49 ∧ WillExecute 1 [64] start49 ∧ 63 < (64 : Byte).toNat ∧
    (63 : Fin 64).val = (63 : Byte).toNat ∧ start49.map.slot 63 = none ∧ (∃ e, start49.map.slot 0 = some e) :=
  ⟨by decide, by decide, by decide, by decide, by decide, _, rfl⟩

theorem witness_CondemnRowStartsRepairs_host :
    WillExecute 1 [1, 0x7F, 0xFF] (base .opened .opened) ∧ 32767 = (0x7F : Byte).toNat * 256 + (0xFF : Byte).toNat ∧
    (1 : ArrayNo).val = (1 : Byte).toNat ∧ (1 : ArrayNo).val < (base .opened .opened).params.arrays.count ∧
    entryFor (base .opened .opened) 1 32767 = none ∧ freeEntry (base .opened .opened) = some 0 ∧
    freeSpare (base .opened .opened) 1 = some 0 ∧ (entryFor start55 0 17).isSome = true ∧ WillExecute 1 [0, 0, 17] start55 ∧
    (WillExecute 1 [0, 0x7F, 0xFF] fullSubs ∧ entryFor fullSubs 0 32767 = none ∧ freeEntry fullSubs = none) ∧
    (2 : Nat) ≤ (2 : Byte).toNat ∧ 32783 < (0x80 : Byte).toNat * 256 + (0x10 : Byte).toNat ∧
    (base .filling .filling).path.path ≠ .setup ∧ (base .filling .filling).path.path ≠ .opened := by decide +kernel

/-- The clauses for a spare row: no target, under an ACTIVE entry, under a COPYING entry from a host row or a spare, with
and without a FREE spare. -/
theorem witness_CondemnRowStartsRepairs_spare :
    SubsOk cursor300 ∧ (0x80 : Byte).toNat * 256 + (2 : Byte).toNat = 32768 + (2 : SpareNo).val ∧
    WillExecute 1 [0, 0x80, 2] cursor300 ∧
    cursor300.subs.table.get 1 =
      some { array := 0, hostRow := 4000, phase := .copying .hostRow 300, target := 2, origin := .auto } ∧
    freeSpare cursor300 0 = some 3 ∧
    cursor300.subs.table.get 0 =
      some { array := 0, hostRow := 17, phase := .active, target := 0, origin := .loaded } ∧
    (∀ i : Fin 32, ∀ e ∈ cursor300.subs.table.get i, ¬(e.array = 0 ∧ e.target = 15)) ∧
    SubsOk retargeting ∧ WillExecute 1 [0, 0x80, 15] retargeting ∧ freeSpare retargeting 0 = some 1 ∧
    freeSpare fullSubs 0 = none := by
  refine ⟨cursor300_ok, ?_, ?_, ?_, ?_, ?_, ?_, retargeting_ok, ?_, ?_, ?_⟩ <;> decide +kernel

theorem witness_RepairsGivenUpLoadedRetired :
    31 < (32 : Byte).toNat ∧ (31 : Fin 32).val = (31 : Byte).toNat ∧ WillExecute 1 [31] cursor300 ∧
    cursor300.subs.table.get 31 = none ∧
    (cursor300.subs.table.get 0).map SubEntry.phase = some .active ∧
    (cursor300.subs.table.get 1).map SubEntry.phase = some (.copying .hostRow 300) ∧
    (retargeting.subs.table.get 0).map SubEntry.phase = some (.copying (.spare 0) 1023) ∧
    (2 : Nat) ≤ (2 : Byte).toNat ∧ WillExecute 1 [2, 0, 0, 0] (base .setup .setup) ∧
    (WillExecute 1 [0, 0x7F, 0xFF, 15] (base .setup .setup) ∧ (base .setup .setup).path.path = .setup ∧
      (15 : SpareNo).val = (15 : Byte).toNat ∧ (0x7F : Byte).toNat * 256 + (0xFF : Byte).toNat ≤ 32767 ∧
      (base .setup .setup).spare 0 15 = .free ∧ entryFor (base .setup .setup) 0 32767 = none ∧
      freeEntry (base .setup .setup) = some 0) ∧
    (32767 < (0x80 : Byte).toNat * 256 + (0 : Byte).toNat ∧ 15 < (16 : Byte).toNat ∧ cursor300.spare 0 1 ≠ .free ∧
      (entryFor cursor300 0 4000).isSome = true) ∧
    (freeEntry fullSubs = none ∧ fullSubs.spare 2 0 = .free) ∧
    (cursor300.spare 0 2 = .inUse ∧ cursor300.spare 0 15 = .free ∧ cursor300.spare 0 1 = .retired) := by decide +kernel

theorem witness_LaneCommandsSteerAndRestore :
    WillExecute 1 [1, 71] (base .opened .opened) ∧ (71 : CodedLane).val = (71 : Byte).toNat ∧ 71 < (72 : Byte).toNat ∧
    (base .opened .opened).steerOf 1 = .normal ∧ (base .opened .opened).params.arrays.count ≤ (2 : Byte).toNat ∧
    namedLane (rich.steerOf 0) = some 0 ∧ namedLane (rich.steerOf 1) = some 71 ∧ (0 : CodedLane) ≠ 71 ∧
    WillExecute 1 [0, 0] rich ∧ rich.steerOf 0 = .migrating 0 33570815 .auto ∧ rich.steerOf 1 = .steered 71 .host ∧
    (base .filling .filling).path.path ≠ .setup ∧ (base .filling .filling).path.path ≠ .opened ∧
    WillExecute 1 [1, 71] (base .setup .setup) ∧ (base .setup .setup).steerOf 1 = .normal := by decide +kernel

end Sys2Proof.Tests
end

section
/-! SUPPORT. The lane codes of the check code (R2): which bytes are codes, which lane a code names, and their odd weight. -/

namespace Sys2Proof.Machine

set_option Elab.async false

/-! ## Weight parity of a byte -/

/-- An exclusive-or over a list, taken of two summands at once. -/
theorem foldl_xor_xor (f g : Nat → Bool) (l : List Nat) (x y : Bool) :
    l.foldl (fun acc i => acc ^^ (f i ^^ g i)) (x ^^ y) =
      (l.foldl (fun acc i => acc ^^ f i) x ^^ l.foldl (fun acc i => acc ^^ g i) y) := by
  induction l generalizing x y with
  | nil => rfl
  | cons i l ih =>
    have hstep : ((x ^^ y) ^^ (f i ^^ g i)) = ((x ^^ f i) ^^ (y ^^ g i)) := by
      simp only [Bool.xor_assoc, Bool.xor_left_comm]
    rw [List.foldl_cons, hstep, ih, List.foldl_cons, List.foldl_cons]

/-- The weight parity of an exclusive-or: what keeps the syndrome of two flipped lanes off every lane code (1.2). -/
theorem onesOdd_xor (a b : Byte) : onesOdd (a ^^^ b) = (onesOdd a ^^ onesOdd b) := by
  simp only [onesOdd, BitVec.getLsbD_xor]
  exact foldl_xor_xor a.getLsbD b.getLsbD (List.range 8) false false

@[simp] theorem onesOdd_zero : onesOdd 0#8 = false := by decide

@[simp] theorem onesOdd_poisonMark : onesOdd poisonMark = false := by decide

@[simp] theorem onesOdd_inversionMask : onesOdd inversionMask = false := by decide

/-! ## The table of lane codes (R2) -/

theorem laneCodes_length : laneCodes.length = 72 := rfl

theorem laneCodes_nodup : laneCodes.Nodup := by decide +kernel

theorem laneCodes_all_onesOdd : laneCodes.all onesOdd = true := by decide +kernel

/-- The table is built as R2 says: weight 3 ascending, the eight smallest of weight 5, the single bits. -/
theorem laneCodes_eq_by_weight :
    laneCodes =
      ((List.range 256).map (BitVec.ofNat 8)).filter (fun b => (List.range 8).countP (fun i => b.getLsbD i) == 3)
      ++ (((List.range 256).map (BitVec.ofNat 8)).filter
          (fun b => (List.range 8).countP (fun i => b.getLsbD i) == 5)).take 8
      ++ (List.range 8).map (BitVec.twoPow 8) := by
  decide +kernel

/-- The odd-weight bytes that are no code (R2). -/
theorem onesOdd_and_not_mem_laneCodes_iff (b : Byte) :
    (onesOdd b = true ∧ b ∉ laneCodes) ↔
      ((List.range 8).countP (fun i => b.getLsbD i) = 5 ∧ 0x57 < b) ∨
        (List.range 8).countP (fun i => b.getLsbD i) = 7 := by
  revert b
  decide +kernel

theorem laneCode_eq_getElem (n : CodedLane) : laneCode n.val = laneCodes[n.val]'n.isLt :=
  List.getD_eq_getElem laneCodes 0 n.isLt

/-- The codes are those of the 72 coded lanes. -/
theorem mem_laneCodes_iff {b : Byte} : b ∈ laneCodes ↔ ∃ n : CodedLane, laneCode n.val = b := by
  constructor
  · intro hb
    obtain ⟨i, hi, rfl⟩ := List.mem_iff_getElem.mp hb
    exact ⟨⟨i, hi⟩, laneCode_eq_getElem ⟨i, hi⟩⟩
  · rintro ⟨n, rfl⟩
    rw [laneCode_eq_getElem]
    exact List.getElem_mem n.isLt

/-- No two coded lanes share a code (R2). -/
theorem laneCode_inj {n m : CodedLane} : laneCode n.val = laneCode m.val ↔ n = m := by
  rw [laneCode_eq_getElem, laneCode_eq_getElem, Fin.ext_iff]
  exact laneCodes_nodup.getElem_inj_iff

/-- Every lane code has odd weight (R2). -/
@[simp] theorem onesOdd_laneCode (n : CodedLane) : onesOdd (laneCode n.val) = true :=
  List.all_eq_true.mp laneCodes_all_onesOdd _ (mem_laneCodes_iff.mpr ⟨n, rfl⟩)

/-! ## The lane a code names -/

theorem laneOfCode_eq_none_iff {b : Byte} : laneOfCode b = none ↔ b ∉ laneCodes := by
  simp [laneOfCode, List.find?_eq_none, mem_laneCodes_iff]

theorem laneOfCode_eq_some_iff {b : Byte} {n : CodedLane} : laneOfCode b = some n ↔ laneCode n.val = b := by
  constructor
  · intro h
    simpa using List.find?_some h
  · rintro rfl
    cases h : laneOfCode (laneCode n.val) with
    | none => exact absurd (mem_laneCodes_iff.mpr ⟨n, rfl⟩) (laneOfCode_eq_none_iff.mp h)
    | some m =>
      have hm : laneCode m.val = laneCode n.val := by simpa using List.find?_some h
      rw [laneCode_inj.mp hm]

/-- Each code names its own lane (R2). -/
theorem laneOfCode_laneCode (n : CodedLane) : laneOfCode (laneCode n.val) = some n := laneOfCode_eq_some_iff.mpr rfl

/-- A value of even weight names no lane (1.2). -/
theorem laneOfCode_of_even {b : Byte} (h : onesOdd b = false) : laneOfCode b = none := by
  cases hb : laneOfCode b with
  | none => rfl
  | some n =>
    rw [← laneOfCode_eq_some_iff.mp hb, onesOdd_laneCode] at h
    cases h

end Sys2Proof.Machine
end

section
/-! SUPPORT. The syndrome of a word with flipped lanes (R6), and the class by the weight parity of the syndrome (R7). -/

namespace Sys2Proof.Machine

set_option Elab.async false

/-! ## The syndrome of flipped lanes -/

/-- A lane alone contributes its code to the syndrome (R3, R6). -/
theorem check_of_one_lane (n : CodedLane) :
    dataCheck (dataLanes (BitVec.twoPow 72 n.val)) ^^^ checkLanes (BitVec.twoPow 72 n.val) = laneCode n.val := by
  revert n
  decide +kernel

/-- A flipped lane changes the syndrome by its code (1.2). -/
theorem syndrome_invertLane (c : Coded) (n : CodedLane) :
    syndrome (invertLane c n) = syndrome c ^^^ laneCode n.val := by
  rw [invertLane, syndrome_xor, check_of_one_lane]

@[simp] theorem invertLane_invertLane (c : Coded) (n : CodedLane) : invertLane (invertLane c n) n = c := by
  simp [invertLane]

/-- A clean word with one lane flipped has that lane's code as its syndrome (R9). -/
theorem syndrome_clean_invertLane (d : Data) (n : CodedLane) :
    syndrome (invertLane (encode d false) n) = laneCode n.val := by
  simp [syndrome_invertLane, syndrome_encode]

/-- A poisoned word with one lane flipped has P exclusive-or that lane's code as its syndrome (R9). -/
theorem syndrome_poisoned_invertLane (d : Data) (n : CodedLane) :
    syndrome (invertLane (encode d true) n) = poisonMark ^^^ laneCode n.val := by
  simp [syndrome_invertLane, syndrome_encode]

/-- A clean word with two lanes flipped has the exclusive-or of their codes as its syndrome (R9). -/
theorem syndrome_clean_invertLane_invertLane (d : Data) (n m : CodedLane) :
    syndrome (invertLane (invertLane (encode d false) n) m) = laneCode n.val ^^^ laneCode m.val := by
  rw [syndrome_invertLane, syndrome_clean_invertLane]

/-- The word of zeros has syndrome M (R12). -/
theorem syndrome_zero : syndrome 0 = inversionMask := by decide +kernel

/-! ## The class by the syndrome (R7) -/

theorem classify_eq_good {c : Coded} (h : syndrome c = 0) : classify c = .good := by
  simp [classify, h]

/-- A syndrome that is a lane's code, which is never 0, names that lane. -/
theorem classify_eq_fixed {c : Coded} {n : CodedLane} (h : laneOfCode (syndrome c) = some n) : classify c = .fixed n := by
  have h0 : syndrome c ≠ 0 := by
    intro h0
    rw [laneOfCode_of_even (by simp [h0])] at h
    cases h
  simp only [classify, if_neg h0, h]

/-- A syndrome of odd weight that is no lane's code: FAULT, for 0, P and M have even weight. -/
theorem classify_eq_fault_of_odd {c : Coded} (hodd : onesOdd (syndrome c) = true) (h : laneOfCode (syndrome c) = none) :
    classify c = .fault := by
  have h0 : syndrome c ≠ 0 := fun e => by simp [e] at hodd
  have hP : syndrome c ≠ poisonMark := fun e => by simp [e] at hodd
  have hM : syndrome c ≠ inversionMask := fun e => by simp [e] at hodd
  simp only [classify, if_neg h0, h, if_neg hP, hM, false_and, if_false]

/-- A syndrome of even weight other than 0 names no lane; the BLANK test is on the word alone, for zeros have syndrome M. -/
theorem classify_of_even {c : Coded} (heven : onesOdd (syndrome c) = false) (h0 : syndrome c ≠ 0) :
    classify c = if syndrome c = poisonMark then .poison else if c = 0 then .blank else .fault := by
  have hblank : (syndrome c = inversionMask ∧ c = 0) ↔ c = 0 :=
    and_iff_right_of_imp fun hc => hc ▸ syndrome_zero
  simp only [classify, if_neg h0, laneOfCode_of_even heven, hblank]

/-! ## The words as written -/

theorem classify_encode_clean (d : Data) : classify (encode d false) = .good :=
  classify_eq_good (syndrome_encode d false)

theorem classify_encode_poisoned (d : Data) : classify (encode d true) = .poison := by
  have h : syndrome (encode d true) = poisonMark := syndrome_encode d true
  rw [classify_of_even (by simp [h]) (by rw [h]; decide), if_pos h]

theorem classify_clean_invertLane (d : Data) (n : CodedLane) : classify (invertLane (encode d false) n) = .fixed n :=
  classify_eq_fixed (by rw [syndrome_clean_invertLane, laneOfCode_laneCode])

/-- R12: a word of zeros is BLANK. -/
theorem classify_zero : classify 0 = .blank := by
  rw [classify_of_even (by rw [syndrome_zero]; decide) (by rw [syndrome_zero]; decide), syndrome_zero]
  decide

/-- R12: the syndrome of a word of ones. -/
theorem syndrome_allOnes : syndrome (BitVec.allOnes 72) = 0xA6 := by decide +kernel

/-- R12: a word of ones is FAULT: its syndrome has even weight and is neither 0 nor P, and the word is not zero. -/
theorem classify_allOnes : classify (BitVec.allOnes 72) = .fault := by
  rw [classify_of_even (by rw [syndrome_allOnes]; decide) (by rw [syndrome_allOnes]; decide), syndrome_allOnes]
  decide

end Sys2Proof.Machine
end

section
/-! SUPPORT. Host byte parity, bit by bit (R10, R11). -/

namespace Sys2Proof.Machine

set_option Elab.async false

/-- The bits gathered from the bytes below `k`. -/
theorem getLsbD_foldl_twoPow (f : Nat → Bool) (k b : Nat) (hb : b < 8) :
    ((List.range k).foldl (fun acc j => if f j then acc ||| BitVec.twoPow 8 j else acc) (0 : Byte)).getLsbD b =
      (decide (b < k) && f b) := by
  induction k with
  | zero => simp
  | succ k ih =>
    rw [List.range_succ, List.foldl_append, List.foldl_cons, List.foldl_nil]
    by_cases hbk : b = k
    · subst hbk
      cases hf : f b <;> simp_all
    · have hlt : b < k + 1 ↔ b < k := by omega
      have hkb : k ≠ b := Ne.symm hbk
      cases hf : f k <;> simp_all

theorem getLsbD_perByte (f : Nat → Bool) {b : Nat} (hb : b < 8) : (perByte f).getLsbD b = f b := by
  rw [perByte, getLsbD_foldl_twoPow f 8 b hb, decide_eq_true hb, Bool.true_and]

/-- The parity bit sent with a byte: odd parity for good data, even parity otherwise (R10). -/
theorem getLsbD_sentParity (d : Data) (goodData : Bool) {b : Nat} (hb : b < 8) :
    (sentParity d goodData).getLsbD b = (onesOdd (byteOf d b) ^^ goodData) := by
  have hodd : (oddParity d).getLsbD b = !onesOdd (byteOf d b) := getLsbD_perByte _ hb
  cases goodData with
  | true => rw [sentParity, if_pos rfl, hodd, Bool.xor_true]
  | false => rw [sentParity, if_neg Bool.false_ne_true, BitVec.getLsbD_not, hodd]; simp [hb]

/-- A write fails exactly on an even byte under its mask (R11). -/
theorem parityFails_iff (mask : Byte) (d : Data) (parity : Byte) :
    parityFails mask d parity = true ↔
      ∃ j < 8, mask.getLsbD j = true ∧ (onesOdd (byteOf d j) ^^ parity.getLsbD j) = false := by
  simp [parityFails, List.any_eq_true]

end Sys2Proof.Machine
end

section
/-! The statements on the stored word and its check code (spec/01). -/

namespace Sys2Proof.Machine

set_option Elab.async false

/-- Settles O14, from the table built by weight and the class of an even syndrome. -/
theorem laneCodesAndExtremeWords : Obligations.LaneCodesAndExtremeWords :=
  ⟨⟨laneCodes_eq_by_weight, laneCodes_length, laneCodes_nodup, laneCodes_all_onesOdd,
      onesOdd_and_not_mem_laneCodes_iff, fun _ => laneOfCode_eq_none_iff.mpr, laneOfCode_laneCode⟩,
    classify_zero, classify_allOnes, by decide +kernel, by decide, syndrome_allOnes, by decide, by decide, by decide⟩

/-- Settles O15: the syndrome of a clean word with one lane flipped is that lane's code, which names that lane alone. -/
theorem oneFlippedLaneIsCorrected : Obligations.OneFlippedLaneIsCorrected := by
  intro d
  refine ⟨classify_encode_clean d, dataLanes_encode d false, fun n => ⟨classify_clean_invertLane d n, ?_, ?_⟩⟩
  · simp only [delivered, invertLane_invertLane, dataLanes_encode]
  · exact invertLane_invertLane _ n

/-- Settles O16: the syndrome of a poisoned word with one lane flipped has odd weight, so it is a lane's code or FAULT. -/
theorem poisonedWordsAreKnown : Obligations.PoisonedWordsAreKnown := by
  intro d
  refine ⟨classify_encode_poisoned d, dataLanes_encode d true, fun n => ?_⟩
  have hs := syndrome_poisoned_invertLane d n
  cases h : laneOfCode (poisonMark ^^^ laneCode n.val) with
  | some m => exact classify_eq_fixed (hs ▸ h)
  | none =>
    have hodd : onesOdd (poisonMark ^^^ laneCode n.val) = true := by simp [onesOdd_xor]
    exact classify_eq_fault_of_odd (hs ▸ hodd) (hs ▸ h)

/-- Settles O17: two codes of odd weight leave a syndrome of even weight, and distinct codes leave it other than 0. -/
theorem twoFlippedLanesAreNeverGood : Obligations.TwoFlippedLanesAreNeverGood := by
  intro d n m hnm
  have hs := syndrome_clean_invertLane_invertLane d n m
  have heven : onesOdd (laneCode n.val ^^^ laneCode m.val) = false := by simp [onesOdd_xor]
  have h0 : laneCode n.val ^^^ laneCode m.val ≠ 0 := fun h => hnm (laneCode_inj.mp (BitVec.xor_eq_zero_iff.mp h))
  rw [classify_of_even (hs ▸ heven) (hs ▸ h0), hs]

/-- Settles O19, from the parity bit of each byte and the bytes tested under the mask. -/
theorem byteParityIsOdd : Obligations.ByteParityIsOdd := by
  intro d b hb
  refine ⟨?_, ?_, fun mask parity => parityFails_iff mask d parity⟩
  · simp [getLsbD_sentParity d true hb]
  · simp [getLsbD_sentParity d false hb]

end Sys2Proof.Machine
end

section
/-! SUPPORT. The Resolver (spec/02): home locations in numbers (R19), and the rows an entry of the Substitution Table sends
reads and drains to (R22, R23). -/

namespace Sys2Proof.Machine

set_option Elab.async false

/-! ## Home locations (R19, R20) -/

theorem ArrayCount.count_pos (n : ArrayCount) : 0 < n.count := by cases n <;> decide

theorem ArrayCount.count_le (n : ArrayCount) : n.count ≤ 8 := by cases n <;> decide

theorem homeOf_array_val (n : ArrayCount) (w : BitVec 28) : (homeOf n w).array.val = w.toNat % n.count := by
  have := Nat.mod_lt w.toNat n.count_pos
  exact Nat.mod_eq_of_lt (Nat.lt_of_lt_of_le this n.count_le)

/-- The physical index of an address in its array is W div N (R19). -/
theorem homeOf_index (n : ArrayCount) (w : BitVec 28) :
    (homeOf n w).row * columns + (homeOf n w).column = w.toNat / n.count := Nat.div_add_mod' ..

theorem homeOf_column_lt (n : ArrayCount) (w : BitVec 28) : (homeOf n w).column < columns :=
  Nat.mod_lt _ (by decide)

theorem inRange_iff (n : ArrayCount) (w : BitVec 28) : inRange n w = true ↔ w.toNat < n.count * hostWordsPerArray := by
  simp [inRange]

/-- An address in range is at home in a host row (R17, R20). -/
theorem homeOf_row_lt {n : ArrayCount} {w : BitVec 28} (h : inRange n w = true) : (homeOf n w).row < hostRows := by
  have hdiv : w.toNat / n.count < hostRows * columns :=
    Nat.div_lt_of_lt_mul ((inRange_iff n w).mp h)
  exact Nat.div_lt_of_lt_mul (Nat.mul_comm .. ▸ hdiv)

/-- An address is W mod N and W div N together. -/
theorem homeOf_injective (n : ArrayCount) {v w : BitVec 28} (h : homeOf n v = homeOf n w) : v = w := by
  have hmod : v.toNat % n.count = w.toNat % n.count := by rw [← homeOf_array_val, ← homeOf_array_val, h]
  have hdiv : v.toNat / n.count = w.toNat / n.count := by rw [← homeOf_index, ← homeOf_index, h]
  apply BitVec.eq_of_toNat_eq
  rw [← Nat.div_add_mod v.toNat n.count, ← Nat.div_add_mod w.toNat n.count, hmod, hdiv]

/-! ## The entry that serves a host row (R22, R74) -/

theorem entryFor_some {s : State} {a : ArrayNo} {row : Nat} {i : Fin 32} {e : SubEntry}
    (h : entryFor s a row = some (i, e)) : s.subs.table.get i = some e ∧ e.array = a ∧ e.hostRow = row := by
  obtain ⟨hi, hp⟩ := entryWhere_some h
  exact ⟨hi, of_decide_eq_true hp⟩

theorem entryFor_eq_none_iff {s : State} {a : ArrayNo} {row : Nat} : entryFor s a row = none ↔
    ∀ (i : Fin 32) (e : SubEntry), s.subs.table.get i = some e → ¬(e.array = a ∧ e.hostRow = row) := by
  constructor
  · intro h i e hi
    exact of_decide_eq_false (entryWhere_none h hi)
  · intro h
    cases hf : entryFor s a row with
    | none => rfl
    | some x =>
      obtain ⟨hi, he⟩ := entryFor_some hf
      exact absurd he (h x.1 x.2 hi)

/-- With each host row in at most one entry, the entry of a host row is the one that serves it. -/
theorem entryFor_eq_some {s : State} (hs : SubsOk s) {i : Fin 32} {e : SubEntry} (hi : s.subs.table.get i = some e) :
    entryFor s e.array e.hostRow = some (i, e) := by
  cases hf : entryFor s e.array e.hostRow with
  | none => exact absurd ⟨rfl, rfl⟩ (entryFor_eq_none_iff.mp hf i e hi)
  | some x =>
    obtain ⟨hj, ha, hr⟩ := entryFor_some hf
    obtain rfl : x.1 = i := hs.2.1 x.1 i x.2 hj e hi ha hr
    rw [hi] at hj
    cases hj
    rfl

/-! ## The rows by the entry (R22, R23) -/

theorem rows_of_no_entry {s : State} {a : ArrayNo} {row : Nat} (h : entryFor s a row = none) (column : Nat) :
    readRow s a row column = row ∧ writeRows s a row column = [row] := by
  simp only [readRow, writeRows, h, and_self]

theorem rows_of_active {s : State} {a : ArrayNo} {row : Nat} {i : Fin 32} {e : SubEntry}
    (h : entryFor s a row = some (i, e)) (hp : e.phase = .active) (column : Nat) :
    readRow s a row column = spareRow e.target ∧ writeRows s a row column = [spareRow e.target] := by
  simp only [readRow, writeRows, h, hp, and_self]

/-- While an entry is COPYING, the columns below its cursor are read from the target and written to both rows. -/
theorem rows_of_copying {s : State} {a : ArrayNo} {row : Nat} {i : Fin 32} {e : SubEntry} {src : CopySource} {c : Nat}
    (h : entryFor s a row = some (i, e)) (hp : e.phase = .copying src c) (column : Nat) :
    readRow s a row column = (if column < c then spareRow e.target else sourceRow e src) ∧
    writeRows s a row column =
      (if column < c then [sourceRow e src, spareRow e.target] else [sourceRow e src]) := by
  simp only [readRow, writeRows, h, hp, and_self]

/-- What a drain writes holds what a read would read: the two tables agree (R22, R23). -/
theorem readRow_mem_writeRows (s : State) (a : ArrayNo) (row column : Nat) :
    readRow s a row column ∈ writeRows s a row column := by
  cases h : entryFor s a row with
  | none =>
    obtain ⟨hr, hw⟩ := rows_of_no_entry h column
    simp [hr, hw]
  | some x =>
    cases hp : x.2.phase with
    | active =>
      obtain ⟨hr, hw⟩ := rows_of_active h hp column
      simp [hr, hw]
    | copying src c =>
      obtain ⟨hr, hw⟩ := rows_of_copying h hp column
      rw [hr, hw]
      split <;> simp

/-- The row a copy reads from, in numbers (R17, R73). -/
theorem sourceRow_eq {e : SubEntry} {src : CopySource} {origin : Nat}
    (h : (src = .hostRow ∧ origin = e.hostRow) ∨ ∃ p : SpareNo, src = .spare p ∧ origin = hostRows + p.val) :
    sourceRow e src = origin := by
  rcases h with ⟨rfl, rfl⟩ | ⟨p, rfl, rfl⟩ <;> rfl

/-! ## The statements -/

/-- Settles O20: an address is W mod N and W div N, the latter a row and a column. -/
theorem homeLocations : Obligations.HomeLocations := by
  intro n w
  have hlt := Nat.mod_lt w.toNat n.count_pos
  refine ⟨inRange_iff n w, homeOf_array_val n w, rfl, rfl, homeOf_index n w, fun h => ⟨?_, homeOf_row_lt h, ?_⟩,
    fun v h => homeOf_injective n h⟩
  · rw [homeOf_array_val]
    exact hlt
  · exact homeOf_column_lt n w

/-- Settles O21, from the rows by the entry that serves the host row. -/
theorem rowsByTheTables : Obligations.RowsByTheTables := by
  intro s a row column
  refine ⟨readRow_mem_writeRows s a row column, fun h => rows_of_no_entry (entryFor_eq_none_iff.mpr h) column, ?_⟩
  rintro i e hs hi rfl rfl
  have hfor := entryFor_eq_some hs hi
  refine ⟨fun hp => rows_of_active hfor hp column, fun src c origin hp ho => ?_⟩
  obtain ⟨hr, hw⟩ := rows_of_copying hfor hp column
  rw [hr, hw, sourceRow_eq ho]
  refine ⟨fun hc => ?_, fun hc => ?_⟩
  · rw [if_pos hc, if_pos hc]
    exact ⟨rfl, rfl⟩
  · rw [if_neg (Nat.not_lt.mpr hc), if_neg (Nat.not_lt.mpr hc)]
    exact ⟨rfl, rfl⟩

end Sys2Proof.Machine
end

section
/-! SUPPORT. Lane 72 in the place of another lane (R24, R25): what is read of a steered word, lane by lane; and the
statement on steered words. -/

namespace Sys2Proof.Machine

set_option Elab.async false

/-- A lane written lies where it was, below lane 72 (R1, R25). -/
theorem getLsbD_withSpareLane (r : SteerRecord) (c : Coded) (n : CodedLane) :
    (withSpareLane r c).getLsbD n.val = c.getLsbD n.val := by
  rw [withSpareLane, BitVec.getLsbD_append, if_pos n.isLt]

/-- Lane 72 carries the value written on the lane the record names (R25). -/
theorem getLsbD_withSpareLane_72 {r : SteerRecord} {k : CodedLane} (h : namedLane r = some k) (c : Coded) :
    (withSpareLane r c).getLsbD 72 = c.getLsbD k.val := by
  rw [withSpareLane, BitVec.getLsbD_append, if_neg (by decide), BitVec.getLsbD_ofBool, h]
  rfl

theorem getLsbD_setLane (c : Coded) (k n : CodedLane) (b : Bool) :
    (setLane c k b).getLsbD n.val = if k = n then b else c.getLsbD n.val := by
  have hlane : (BitVec.twoPow 72 k.val).getLsbD n.val = decide (k = n) := by
    simp only [BitVec.getLsbD_twoPow, k.isLt, decide_true, Bool.true_and, Fin.ext_iff]
  rw [setLane, BitVec.getLsbD_or, BitVec.getLsbD_and, BitVec.getLsbD_not, hlane]
  by_cases hkn : k = n
  · cases b <;> simp [hkn]
  · have hne : ¬n.val = k.val := fun h => hkn (Fin.ext h.symm)
    cases b <;> simp [hkn, hne]

/-- The lanes read are those stored, but for the lane that lane 72 supplies (R1, R24). -/
theorem getLsbD_lanesRead (w : Stored) (choice : Option CodedLane) (n : CodedLane) :
    (lanesRead w choice).getLsbD n.val = if choice = some n then w.getLsbD 72 else w.getLsbD n.val := by
  have hlow : (w.setWidth 72).getLsbD n.val = w.getLsbD n.val := by
    rw [BitVec.getLsbD_setWidth, decide_eq_true n.isLt, Bool.true_and]
  cases choice with
  | none => rw [lanesRead, hlow, if_neg nofun]
  | some k => simp only [lanesRead, getLsbD_setLane, hlow, Option.some.injEq]

/-- Two sets of coded lanes are equal when each lane is. -/
theorem coded_ext {c d : Coded} (h : ∀ n : CodedLane, c.getLsbD n.val = d.getLsbD n.val) : c = d :=
  BitVec.eq_of_getLsbD_eq fun i hi => h ⟨i, hi⟩

/-- Lane 72 supplies a lane only if the record names it. -/
theorem namedLane_of_laneChoice {r : SteerRecord} {i : Nat} {k : CodedLane} (h : laneChoice r i = some k) :
    namedLane r = some k := by
  cases r with
  | normal => cases h
  | steered j _ => exact h
  | migrating j c _ =>
    simp only [laneChoice] at h
    split at h
    · exact h
    · cases h

/-- A word reads, under the record it was written under and at every index, as the lanes written (R24, R25). -/
theorem lanesRead_withSpareLane (r : SteerRecord) (i : Nat) (c : Coded) :
    lanesRead (withSpareLane r c) (laneChoice r i) = c := by
  refine coded_ext fun n => ?_
  rw [getLsbD_lanesRead]
  split
  · exact getLsbD_withSpareLane_72 (namedLane_of_laneChoice ‹_›) c
  · exact getLsbD_withSpareLane r c n

theorem getLsbD_invertLane (c : Coded) (k n : CodedLane) :
    (invertLane c k).getLsbD n.val = (c.getLsbD n.val ^^ decide (k = n)) := by
  simp only [invertLane, BitVec.getLsbD_xor, BitVec.getLsbD_twoPow, k.isLt, decide_true, Bool.true_and, Fin.ext_iff]

/-- One lane of a stored word with lane `m` flipped. -/
theorem getLsbD_flip (w : Stored) {m : Nat} (hm : m < 73) (n : Nat) :
    (w ^^^ BitVec.twoPow 73 m).getLsbD n = (w.getLsbD n ^^ decide (m = n)) := by
  simp only [BitVec.getLsbD_xor, BitVec.getLsbD_twoPow, hm, decide_true, Bool.true_and]

/-- A flip of lane 72 is read as a flip of the lane it supplies (R24). -/
theorem lanesRead_flip_72 (w : Stored) (k : CodedLane) :
    lanesRead (w ^^^ BitVec.twoPow 73 72) (some k) = invertLane (lanesRead w (some k)) k := by
  refine coded_ext fun n => ?_
  have hn : ¬72 = n.val := by omega
  have hflip := getLsbD_flip w (m := 72) (by decide)
  rw [getLsbD_lanesRead, getLsbD_invertLane, getLsbD_lanesRead, hflip, hflip]
  by_cases hkn : k = n
  · simp only [hkn, if_true, decide_true]
  · simp only [hkn, hn, Option.some.injEq, if_false, decide_false]

/-- A flip of the lane that lane 72 supplies is not read (R24). -/
theorem lanesRead_flip_supplied (w : Stored) (k : CodedLane) :
    lanesRead (w ^^^ BitVec.twoPow 73 k.val) (some k) = lanesRead w (some k) := by
  refine coded_ext fun n => ?_
  have h72 : ¬k.val = 72 := by omega
  have hflip := getLsbD_flip w (m := k.val) (by omega)
  rw [getLsbD_lanesRead, getLsbD_lanesRead, hflip, hflip]
  by_cases hkn : k = n
  · simp only [hkn, if_true, decide_eq_false (hkn ▸ h72), Bool.xor_false]
  · simp only [hkn, Option.some.injEq, if_false, decide_eq_false (Fin.ext_iff.not.mp hkn), Bool.xor_false]

/-- A flip of any other lane is read as it is (R24). -/
theorem lanesRead_flip_other (w : Stored) {k m : CodedLane} (h : m ≠ k) :
    lanesRead (w ^^^ BitVec.twoPow 73 m.val) (some k) = invertLane (lanesRead w (some k)) m := by
  refine coded_ext fun n => ?_
  have h72 : ¬m.val = 72 := by omega
  have hflip := getLsbD_flip w (m := m.val) (by omega)
  rw [getLsbD_lanesRead, getLsbD_invertLane, getLsbD_lanesRead, hflip, hflip]
  by_cases hkn : k = n
  · simp only [hkn ▸ h, hkn, if_true, h72, decide_false]
  · simp only [hkn, Option.some.injEq, if_false, Fin.ext_iff]

/-- The decode of stored lanes that read as given (R24, R6, R7). -/
theorem decodeWord_of_lanes {r : SteerRecord} {i : Nat} {w : Stored} {c : Coded} (h : lanesRead w (laneChoice r i) = c) :
    decodeWord r i w = { cls := classify c, lanes := c, data := delivered c (classify c), choice := laneChoice r i } := by
  simp only [decodeWord, h]

/-- A decode that names a lane reports it, charged as R26 says. -/
theorem error_of_fixed {d : Decoded} {n : CodedLane} (h : d.cls = .fixed n) :
    d.error = some (.fixed (chargedLane d.choice n)) := by
  simp only [Decoded.error, h]

theorem error_of_good {d : Decoded} (h : d.cls = .good) : d.error = none := by
  simp only [Decoded.error, h]

theorem decodeWord_storedWord (r : SteerRecord) (i : Nat) (d : Data) (p : Bool) :
    (decodeWord r i (storedWord r d p)).cls = (if p then .poison else .good) ∧
    (decodeWord r i (storedWord r d p)).data = d := by
  rw [storedWord, decodeWord_of_lanes (lanesRead_withSpareLane r i _)]
  cases p with
  | false => simp [classify_encode_clean, delivered, dataLanes_encode]
  | true => simp [classify_encode_poisoned, delivered, dataLanes_encode]

/-- Settles O18: a flip is read as a flip of one lane of the clean word, or of none; which it is follows from R24. -/
theorem steeredWordsReadAsWrittenOrCharged : Obligations.SteeredWordsReadAsWrittenOrCharged := by
  refine ⟨decodeWord_storedWord, fun k n c i o d r hr => ?_⟩
  have hchoice : laneChoice r i = some k := by
    rcases hr with rfl | ⟨rfl, hi⟩
    · rfl
    · exact if_pos hi
  have hclean : lanesRead (storedWord r d false) (some k) = encode d false :=
    hchoice ▸ lanesRead_withSpareLane r i _
  refine ⟨?_, ?_, fun hn => ?_⟩
  · have hflip := lanesRead_flip_72 (storedWord r d false) k
    rw [hclean, ← hchoice] at hflip
    rw [decodeWord_of_lanes hflip, error_of_fixed (classify_clean_invertLane d k)]
    simp [chargedLane, hchoice]
  · exact error_of_good (by
      rw [decodeWord_of_lanes (hchoice ▸ (lanesRead_flip_supplied _ k).trans hclean)]
      exact classify_encode_clean d)
  · have hflip := lanesRead_flip_other (storedWord r d false) hn
    rw [hclean, ← hchoice] at hflip
    rw [decodeWord_of_lanes hflip, error_of_fixed (classify_clean_invertLane d n)]
    simp [chargedLane, hchoice, Ne.symm hn]

end Sys2Proof.Machine
end

section
/-! SUPPORT. What each kind of turn fixes at its grant (R21, R34), and the statement on grants. -/

namespace Sys2Proof.Machine

set_option Elab.async false

/-- A word at a row and column is named by them (R17). -/
theorem wordAt_eq_some {row column : Nat} {w : PhysIndex} (hc : column < columns) (hw : w.val = row * columns + column) :
    wordAt row column = some w := by
  have hrow : row < physRows := by
    have := w.isLt
    simp only [columns, wordsPerArray, physRows] at *
    omega
  rw [wordAt, if_pos ⟨hc, hrow⟩]
  exact finOf?_some hw

/-- TURN_GRANT begins the turn of the kind chosen, with what that kind fixes at its grant. -/
theorem exec_turnGrant_of_grant {s t : State} {a : ArrayNo} {k : TurnKind} (hk : grantChoice s a = some k)
    (ht : grant a k s = some t) : exec (.turnGrant a) s = .next t := by
  show execTurnGrant a s = .next t
  simp only [execTurnGrant, hk, ht]

theorem grantHostRead_eq {s : State} {a : ArrayNo} {r : OutRead} {w : PhysIndex} (hr : readChoice s a = some r)
    (hw : wordAt (readRow s a r.home.row r.home.column) r.home.column = some w) :
    grantHostRead a s = some (markInTurn r.place (beginTurn a (.hostRead r.place w s.params.repairRead) s)) := by
  simp only [grantHostRead, hr, hw]

theorem grantDrain_eq {s : State} {a : ArrayNo} {e : WriteEntry} {h : Home} {rw : PhysIndex} {ws : List PhysIndex}
    (hh : h = homeOf s.params.arrays e.addr) (he : drainChoice s a = some e)
    (hr : wordAt (readRow s a h.row h.column) h.column = some rw)
    (hw : wordsAt h.column (writeRows s a h.row h.column) = some ws) :
    grantDrain a s = some (beginTurn a (.drain e.addr e.data e.mask e.poisoned rw ws)
      { s with queue := queueStartDrain s.queue e.addr }) := by
  subst hh
  simp only [grantDrain, he, hr, hw]

theorem grantPeek_eq {s : State} {a b : ArrayNo} {q : Byte} {w : PhysIndex}
    (h : s.link.lock = some { seq := q, command := .peek b w false }) :
    grantPeek a s = some (beginTurn a (.peek w)
      { s with link := { s.link with lock := some { seq := q, command := .peek b w true } } }) := by
  simp only [grantPeek, h]

theorem grantCopy_eq {s : State} {a : ArrayNo} {i : Fin 32} {e : SubEntry} {src : CopySource} {c : Nat} {col : Column}
    {sw tw : PhysIndex} (hc : copyChoice s a = some (i, e)) (hp : e.phase = .copying src c) (hcol : finOf? columns c = some col)
    (hsw : wordAt (sourceRow e src) c = some sw) (htw : wordAt (spareRow e.target) c = some tw) :
    grantCopy a s = some (beginTurn a
      (.copy { entry := i, source := src, target := e.target, column := col, void := false } sw tw) s) := by
  simp only [grantCopy, hc, hp, hcol, hsw, htw]

theorem grantMigrate_eq {s : State} {a : ArrayNo} {k : CodedLane} {c : Nat} {o : RepairOrigin} {i : PhysIndex}
    (hr : s.steerOf a = .migrating k c o) (hi : finOf? wordsPerArray c = some i) :
    grantMigrate a s = some (beginTurn a (.migrate k i false) s) := by
  simp only [grantMigrate, hr, hi]

theorem grantFill_eq {s : State} {a : ArrayNo} {p : FillPos} (h : s.scrub.fill = some p) :
    grantFill a s = some (beginTurn a (.fill p.index false) s) := by
  simp only [grantFill, h]

theorem grantScrub_eq {s : State} {a : ArrayNo} {w : PhysIndex}
    (h : wordAt (scrubRow s a s.scrub.cursor.row) s.scrub.cursor.column = some w) :
    grantScrub a s = some (beginTurn a (.scrub w false) { s with scrub := { s.scrub with claim := false } }) := by
  simp only [grantScrub, h]

/-- Settles O31: each clause is the grant of its kind. -/
theorem grantedTurnsAreFixed : Obligations.GrantedTurnsAreFixed := by
  refine ⟨fun s a => ⟨?hostRead, ?drain⟩, fun s a => ⟨?peek, ?copy, ?migrate, ?fill, ?scrub⟩⟩
  case hostRead =>
    intro r w hk hr hw
    exact exec_turnGrant_of_grant hk (grantHostRead_eq hr hw)
  case drain =>
    intro e rw ws hk he hr hw
    exact exec_turnGrant_of_grant hk (grantDrain_eq rfl he hr hw)
  case peek =>
    intro q w hk hl
    exact exec_turnGrant_of_grant hk (grantPeek_eq hl)
  case copy =>
    intro i e src c col sw tw hk hc hp hcol hsw htw
    have hlt : c < columns := hcol ▸ col.isLt
    exact exec_turnGrant_of_grant hk
      (grantCopy_eq hc hp (finOf?_some hcol) (wordAt_eq_some hlt hsw) (wordAt_eq_some hlt htw))
  case migrate =>
    intro k o i hk hr
    exact exec_turnGrant_of_grant hk (grantMigrate_eq hr (finOf?_some rfl))
  case fill =>
    intro i hk hf
    exact exec_turnGrant_of_grant hk (grantFill_eq hf)
  case scrub =>
    intro w hk hw
    exact exec_turnGrant_of_grant hk (grantScrub_eq hw)

end Sys2Proof.Machine
end

section
/-! SUPPORT. Reading after writing (R17; log 4), and an occurrence over another memory: what an occurrence sets off neither
reads nor writes the arrays, and of the turns it reaches only the work in hand on its own array. -/

namespace Sys2Proof.Machine

set_option Elab.async false

/-! ## Words -/

/-- A word reads as last written, and a write leaves the others alone (R17). -/
theorem word_setWord (s : State) (a b : ArrayNo) (i j : PhysIndex) (w : Stored) :
    (s.setWord a i w).word b j = if b = a ∧ j = i then w else s.word b j := by
  simp only [State.word, State.setWord_mem, State.setWord_epoch, memFind_memPut, memKey_eq_iff]
  split <;> rfl

/-- Words are read from the list of stored words and the reset count alone. -/
theorem word_congr {s t : State} (hm : t.mem = s.mem) (he : t.epoch = s.epoch) (b : ArrayNo) (j : PhysIndex) :
    t.word b j = s.word b j := by
  simp only [State.word, hm, he]

theorem word_disturb (s : State) (a b : ArrayNo) (i j : PhysIndex) (flips : Stored) :
    (disturb a i flips s).word b j = if b = a ∧ j = i then s.word a i ^^^ flips else s.word b j := by
  unfold disturb
  split
  · rename_i h
    split
    · rename_i hb
      obtain ⟨rfl, rfl⟩ := hb
      simp [h]
    · rfl
  · exact word_setWord ..

theorem word_setWords (a b : ArrayNo) (j : PhysIndex) (w : Stored) (is : List PhysIndex) (s : State) :
    (setWords a w is s).word b j = if b = a ∧ j ∈ is then w else s.word b j := by
  induction is generalizing s with
  | nil => simp [setWords]
  | cons i is ih =>
    rw [setWords, ih, word_setWord]
    by_cases hb : b = a <;> by_cases hi : j = i <;> by_cases hj : j ∈ is <;> simp [hb, hi, hj]

/-- What a turn reads of a disturbed array (R9; log 3). -/
theorem readIn_disturb (a : ArrayNo) (i : PhysIndex) (r : SteerRecord) (flips : Stored) (s : State) :
    readIn (disturb a i flips s) a r i = decodeNow s a i r flips := by
  simp only [readIn, decodeNow, disturb_word_self]

/-! ## The state over another memory -/

/-- The state with another list of stored words. -/
def State.withMem (s : State) (m : List (Nat × Stored)) : State := { s with mem := m }

theorem disturb_eq_withMem (a : ArrayNo) (i : PhysIndex) (flips : Stored) (s : State) :
    disturb a i flips s = s.withMem (disturb a i flips s).mem := by
  unfold disturb
  split <;> rfl

theorem setWords_eq_withMem (a : ArrayNo) (w : Stored) (is : List PhysIndex) (s : State) :
    setWords a w is s = s.withMem (setWords a w is s).mem := by
  induction is generalizing s with
  | nil => rfl
  | cons i is ih =>
    rw [setWords, ih]
    rfl

theorem disturb_epoch (a : ArrayNo) (i : PhysIndex) (flips : Stored) (s : State) :
    (disturb a i flips s).epoch = s.epoch := by rw [disturb_eq_withMem]; rfl

theorem setWords_epoch (a : ArrayNo) (w : Stored) (is : List PhysIndex) (s : State) :
    (setWords a w is s).epoch = s.epoch := by rw [setWords_eq_withMem]; rfl

@[simp] theorem turn_withMem (s : State) (m : List (Nat × Stored)) (a : ArrayNo) : (s.withMem m).turn a = s.turn a := rfl

@[simp] theorem steerOf_withMem (s : State) (m : List (Nat × Stored)) (a : ArrayNo) :
    (s.withMem m).steerOf a = s.steerOf a := rfl

@[simp] theorem params_withMem (s : State) (m : List (Nat × Stored)) : (s.withMem m).params = s.params := rfl

@[simp] theorem map_withMem (s : State) (m : List (Nat × Stored)) : (s.withMem m).map = s.map := rfl

@[simp] theorem scrub_withMem (s : State) (m : List (Nat × Stored)) : (s.withMem m).scrub = s.scrub := rfl

@[simp] theorem entryWhere_withMem (s : State) (m : List (Nat × Stored)) (p : SubEntry → Bool) :
    entryWhere (s.withMem m) p = entryWhere s p := rfl

@[simp] theorem entryFor_withMem (s : State) (m : List (Nat × Stored)) (a : ArrayNo) (row : Nat) :
    entryFor (s.withMem m) a row = entryFor s a row := rfl

@[simp] theorem freeEntry_withMem (s : State) (m : List (Nat × Stored)) : freeEntry (s.withMem m) = freeEntry s := rfl

@[simp] theorem freeSpare_withMem (s : State) (m : List (Nat × Stored)) (a : ArrayNo) :
    freeSpare (s.withMem m) a = freeSpare s a := rfl

theorem setSpare_withMem (a : ArrayNo) (t : SpareNo) (x : SpareStatus) (s : State) (m : List (Nat × Stored)) :
    setSpare a t x (s.withMem m) = (setSpare a t x s).withMem m := rfl

theorem setEntry_withMem (i : Fin 32) (e : Option SubEntry) (s : State) (m : List (Nat × Stored)) :
    setEntry i e (s.withMem m) = (setEntry i e s).withMem m := rfl

theorem setSteer_withMem (a : ArrayNo) (r : SteerRecord) (s : State) (m : List (Nat × Stored)) :
    setSteer a r (s.withMem m) = (setSteer a r s).withMem m := rfl

theorem raise_withMem (f : AlertFlag) (s : State) (m : List (Nat × Stored)) :
    raise f (s.withMem m) = (raise f s).withMem m := by
  unfold raise changeAlert
  rw [apply_ite (State.withMem · m)]
  rfl

theorem mapTurn_withMem (a : ArrayNo) (f : TurnWork → TurnWork) (s : State) (m : List (Nat × Stored)) :
    mapTurn a f (s.withMem m) = (mapTurn a f s).withMem m := by
  simp only [mapTurn, turn_withMem]
  cases s.turn a <;> rfl

theorem voidCopy_withMem (a : ArrayNo) (i : Fin 32) (s : State) (m : List (Nat × Stored)) :
    voidCopy a i (s.withMem m) = (voidCopy a i s).withMem m := mapTurn_withMem ..

theorem cancelMigration_withMem (a : ArrayNo) (s : State) (m : List (Nat × Stored)) :
    cancelMigration a (s.withMem m) = (cancelMigration a s).withMem m := by
  rw [cancelMigration, setSteer_withMem, mapTurn_withMem, cancelMigration]

/-- What a condemnation comes to, over another memory. -/
def withMemFst (m : List (Nat × Stored)) (x : State × RepairOutcome) : State × RepairOutcome := (x.1.withMem m, x.2)

theorem condemnHostRow_withMem (auto : Bool) (a : ArrayNo) (row : Nat) (s : State) (m : List (Nat × Stored)) :
    condemnHostRow auto a row (s.withMem m) = withMemFst m (condemnHostRow auto a row s) := by
  simp only [condemnHostRow, entryFor_withMem, freeEntry_withMem, freeSpare_withMem, params_withMem, raise_withMem]
  cases entryFor s a row with
  | some _ => rfl
  | none =>
    rw [apply_ite (withMemFst m)]
    cases freeEntry s <;> cases freeSpare s a <;> rfl

theorem retarget_withMem (auto : Bool) (a : ArrayNo) (i : Fin 32) (e : SubEntry) (s : State) (m : List (Nat × Stored)) :
    retarget auto a i e (s.withMem m) = withMemFst m (retarget auto a i e s) := by
  simp only [retarget, freeSpare_withMem, params_withMem, raise_withMem]
  rw [apply_ite (withMemFst m)]
  cases freeSpare s a <;> rfl

theorem replaceTarget_withMem (a : ArrayNo) (i : Fin 32) (e : SubEntry) (src : CopySource) (s : State)
    (m : List (Nat × Stored)) : replaceTarget a i e src (s.withMem m) = withMemFst m (replaceTarget a i e src s) := by
  simp only [replaceTarget, setSpare_withMem, voidCopy_withMem, freeSpare_withMem, setEntry_withMem, raise_withMem]
  cases freeSpare (voidCopy a i (setSpare a e.target .retired s)) a <;> rfl

theorem condemnSpare_withMem (auto : Bool) (a : ArrayNo) (t : SpareNo) (s : State) (m : List (Nat × Stored)) :
    condemnSpare auto a t (s.withMem m) = withMemFst m (condemnSpare auto a t s) := by
  simp only [condemnSpare, entryWhere_withMem, retarget_withMem, replaceTarget_withMem]
  cases entryWhere s (fun e => decide (e.array = a ∧ e.target = t)) with
  | none => rfl
  | some x => cases h : x.2.phase <;> simp only [h]

theorem condemnRowEngine_withMem (auto : Bool) (a : ArrayNo) (row : Nat) (s : State) (m : List (Nat × Stored)) :
    condemnRowEngine auto a row (s.withMem m) = withMemFst m (condemnRowEngine auto a row s) := by
  simp only [condemnRowEngine, condemnHostRow_withMem, condemnSpare_withMem]
  rw [apply_ite (withMemFst m)]
  cases spareOfRow row <;> rfl

theorem condemnCodedLane_withMem (auto : Bool) (a : ArrayNo) (k : CodedLane) (s : State) (m : List (Nat × Stored)) :
    condemnCodedLane auto a k (s.withMem m) = withMemFst m (condemnCodedLane auto a k s) := by
  simp only [condemnCodedLane, steerOf_withMem, params_withMem, raise_withMem, setSteer_withMem]
  cases namedLane (s.steerOf a) with
  | none => rw [apply_ite (withMemFst m)]; rfl
  | some j => simp only [apply_ite (withMemFst m)]; rfl

theorem condemnSpareLane_withMem (a : ArrayNo) (s : State) (m : List (Nat × Stored)) :
    condemnSpareLane a (s.withMem m) = withMemFst m (condemnSpareLane a s) := by
  simp only [condemnSpareLane, steerOf_withMem, cancelMigration_withMem, raise_withMem]
  cases s.steerOf a <;> rfl

theorem condemnLaneEngine_withMem (auto : Bool) (a : ArrayNo) (l : PhysLane) (s : State) (m : List (Nat × Stored)) :
    condemnLaneEngine auto a l (s.withMem m) = withMemFst m (condemnLaneEngine auto a l s) := by
  simp only [condemnLaneEngine, condemnCodedLane_withMem, condemnSpareLane_withMem]
  cases finOf? 72 l.val <;> rfl

theorem condemnRow_withMem (a : ArrayNo) (row : Nat) (s : State) (m : List (Nat × Stored)) :
    condemnRow a row (s.withMem m) = (condemnRow a row s).withMem m := by
  unfold condemnRow
  show raise .condemned (condemnRowEngine true a row
    (State.withMem { s with map := s.map.condemnWhere (MapEntry.inRow a row) } m)).1 = _
  rw [condemnRowEngine_withMem, withMemFst, raise_withMem]

theorem condemnLane_withMem (a : ArrayNo) (l : PhysLane) (s : State) (m : List (Nat × Stored)) :
    condemnLane a l (s.withMem m) = (condemnLane a l s).withMem m := by
  unfold condemnLane
  show raise .condemned (condemnLaneEngine true a l
    (State.withMem { s with map := s.map.condemnWhere (MapEntry.inLane a l) } m)).1 = _
  rw [condemnLaneEngine_withMem, withMemFst, raise_withMem]

theorem laneTriggers_withMem (o : Occurrence) (l : PhysLane) (s : State) (m : List (Nat × Stored)) :
    laneTriggers o l (s.withMem m) = (laneTriggers o l s).withMem m := by
  simp only [laneTriggers, map_withMem, params_withMem, condemnRow_withMem, condemnLane_withMem,
    ← apply_ite (State.withMem · m)]
  rfl

theorem triggers_withMem (o : Occurrence) (b : Bool) (s : State) (m : List (Nat × Stored)) :
    triggers o b (s.withMem m) = (triggers o b s).withMem m := by
  simp only [triggers, condemnRow_withMem, laneTriggers_withMem]
  cases o.error with
  | fault => rfl
  | blank => rfl
  | fixed l => exact (apply_ite (State.withMem · m) _ _ _).symm

/-- An occurrence reads nothing of the arrays and writes nothing there (R35, R52). -/
theorem deliver_withMem (o : Occurrence) (s : State) (m : List (Nat × Stored)) :
    deliver o (s.withMem m) = (deliver o s).withMem m := by
  simp only [deliver, raise_withMem, triggers_withMem, map_withMem, params_withMem, scrub_withMem]
  cases (raise o.error.flag s).map.recordKey (raise o.error.flag s).params.suspectAt
    (raise o.error.flag s).scrub.pass o with
  | recorded m' b => exact triggers_withMem o b { raise o.error.flag s with map := m' } m
  | lost => rfl

theorem report_withMem (a : ArrayNo) (i : PhysIndex) (g : Origin) (d : Decoded) (s : State) (m : List (Nat × Stored)) :
    report a i g d (s.withMem m) = (report a i g d s).withMem m := by
  simp only [report, deliver_withMem]
  cases d.error <;> rfl

/-! ## The turns and the path state an occurrence reaches -/

/-- What a condemnation or an occurrence on array `a` can do outside the tables and the alerts: change the work in hand at
`a` (R83, R101), and begin a wake in QUIET (R165). -/
structure ReachesAt (a : ArrayNo) (s t : State) : Prop where
  others : ∀ b, b ≠ a → t.turn b = s.turn b
  own : (t.turn a).isNone = (s.turn a).isNone
  path : t.path = s.path ∨ (s.path.path = .quiet ∧ t.path = { s.path with path := .waking })

theorem ReachesAt.of_eq {a : ArrayNo} {s t : State} (h : t.turns = s.turns := by rfl) (hp : t.path = s.path := by rfl) :
    ReachesAt a s t := by
  refine ⟨fun b _ => ?_, ?_, .inl hp⟩ <;> simp only [State.turn, h]

theorem ReachesAt.refl (a : ArrayNo) (s : State) : ReachesAt a s s := .of_eq

theorem ReachesAt.trans {a : ArrayNo} {s t u : State} (h : ReachesAt a s t) (g : ReachesAt a t u) : ReachesAt a s u := by
  refine ⟨fun b hb => (g.others b hb).trans (h.others b hb), g.own.trans h.own, ?_⟩
  rcases h.path with hp | ⟨hq, hp⟩
  · rw [← hp]
    exact g.path
  · rcases g.path with gp | ⟨gq, -⟩
    · exact .inr ⟨hq, gp.trans hp⟩
    · rw [hp] at gq
      cases gq

theorem raise_reachesAt (a : ArrayNo) (f : AlertFlag) (s : State) : ReachesAt a s (raise f s) := by
  rcases changeAlert_cases { s.alert with flags := s.alert.flags ||| f.mask } s with h | ⟨hq, -, -, h⟩
  · rw [raise, h]
    exact .of_eq
  · rw [raise, h]
    exact ⟨fun _ _ => rfl, rfl, .inr ⟨hq, rfl⟩⟩

theorem mapTurn_reachesAt (a : ArrayNo) (f : TurnWork → TurnWork) (s : State) : ReachesAt a s (mapTurn a f s) := by
  refine ⟨fun b hb => ?_, ?_, .inl ?_⟩
  · rw [mapTurn_turn, if_neg hb]
  · rw [mapTurn_turn, if_pos rfl, Option.isNone_map]
  · rw [mapTurn_frame]

theorem condemnHostRow_reachesAt (auto : Bool) (a : ArrayNo) (row : Nat) (s : State) :
    ReachesAt a s (condemnHostRow auto a row s).1 := by
  unfold condemnHostRow
  split
  · exact .refl a s
  · split
    · exact .refl a s
    · split
      · exact .of_eq
      · exact raise_reachesAt ..

theorem retarget_reachesAt (auto : Bool) (a : ArrayNo) (i : Fin 32) (e : SubEntry) (s : State) :
    ReachesAt a s (retarget auto a i e s).1 := by
  unfold retarget
  split
  · exact .refl a s
  · split
    · exact .of_eq
    · exact raise_reachesAt ..

theorem replaceTarget_reachesAt (a : ArrayNo) (i : Fin 32) (e : SubEntry) (src : CopySource) (s : State) :
    ReachesAt a s (replaceTarget a i e src s).1 := by
  have hvoid : ReachesAt a s (voidCopy a i (setSpare a e.target .retired s)) :=
    ReachesAt.trans .of_eq (mapTurn_reachesAt ..)
  unfold replaceTarget
  dsimp only
  split
  · exact hvoid.trans .of_eq
  · exact hvoid.trans (.trans .of_eq (raise_reachesAt ..))

theorem condemnSpare_reachesAt (auto : Bool) (a : ArrayNo) (t : SpareNo) (s : State) :
    ReachesAt a s (condemnSpare auto a t s).1 := by
  unfold condemnSpare
  split
  · exact .refl a s
  · split
    · exact retarget_reachesAt ..
    · exact replaceTarget_reachesAt ..

theorem condemnRowEngine_reachesAt (auto : Bool) (a : ArrayNo) (row : Nat) (s : State) :
    ReachesAt a s (condemnRowEngine auto a row s).1 := by
  unfold condemnRowEngine
  split
  · exact condemnHostRow_reachesAt ..
  · split
    · exact condemnSpare_reachesAt ..
    · exact .refl a s

theorem cancelMigration_reachesAt (a : ArrayNo) (s : State) : ReachesAt a s (cancelMigration a s) :=
  ReachesAt.trans .of_eq (mapTurn_reachesAt ..)

theorem condemnCodedLane_reachesAt (auto : Bool) (a : ArrayNo) (k : CodedLane) (s : State) :
    ReachesAt a s (condemnCodedLane auto a k s).1 := by
  unfold condemnCodedLane
  split
  · split
    · exact .refl a s
    · exact .of_eq
  · split
    · exact .refl a s
    · split
      · exact .refl a s
      · exact raise_reachesAt ..

theorem condemnLaneEngine_reachesAt (auto : Bool) (a : ArrayNo) (l : PhysLane) (s : State) :
    ReachesAt a s (condemnLaneEngine auto a l s).1 := by
  unfold condemnLaneEngine
  split
  · exact condemnCodedLane_reachesAt ..
  · unfold condemnSpareLane
    split
    · exact .refl a s
    · exact (cancelMigration_reachesAt a s).trans (raise_reachesAt ..)
    · exact raise_reachesAt ..

theorem condemnRow_reachesAt (a : ArrayNo) (row : Nat) (s : State) : ReachesAt a s (condemnRow a row s) := by
  refine ReachesAt.trans ?_ (raise_reachesAt ..)
  exact ReachesAt.trans .of_eq (condemnRowEngine_reachesAt ..)

theorem condemnLane_reachesAt (a : ArrayNo) (l : PhysLane) (s : State) : ReachesAt a s (condemnLane a l s) := by
  refine ReachesAt.trans ?_ (raise_reachesAt ..)
  exact ReachesAt.trans .of_eq (condemnLaneEngine_reachesAt ..)

theorem laneTriggers_reachesAt (o : Occurrence) (l : PhysLane) (s : State) :
    ReachesAt o.array s (laneTriggers o l s) := by
  unfold laneTriggers
  dsimp only
  split <;> split
  · exact (condemnRow_reachesAt ..).trans (condemnLane_reachesAt ..)
  · exact condemnLane_reachesAt ..
  · exact condemnRow_reachesAt ..
  · exact .refl ..

theorem triggers_reachesAt (o : Occurrence) (b : Bool) (s : State) : ReachesAt o.array s (triggers o b s) := by
  unfold triggers
  split
  · exact condemnRow_reachesAt ..
  · exact .refl ..
  · split
    · exact laneTriggers_reachesAt ..
    · exact .refl ..

theorem deliver_reachesAt (o : Occurrence) (s : State) : ReachesAt o.array s (deliver o s) := by
  unfold deliver
  dsimp only
  split
  · refine ReachesAt.trans ?_ (triggers_reachesAt ..)
    exact (raise_reachesAt ..).trans .of_eq
  · refine ReachesAt.trans ?_ (triggers_reachesAt ..)
    exact (raise_reachesAt ..).trans (raise_reachesAt ..)

theorem report_reachesAt (a : ArrayNo) (i : PhysIndex) (g : Origin) (d : Decoded) (s : State) :
    ReachesAt a s (report a i g d s) := by
  unfold report
  split
  · exact .refl a s
  · rename_i e _
    exact deliver_reachesAt ⟨a, rowOf i, columnOf i, e, g⟩ s

end Sys2Proof.Machine
end

section
/-! The statement on DRAIN turns (R38, R137). -/

namespace Sys2Proof.Machine

set_option Elab.async false

/-- What is written for a word found bad: POISON, BLANK and FAULT are (R38 to R40). -/
theorem bad_eq (d : Decoded) : d.bad = (match d.cls with
    | .good => false
    | .fixed _ => false
    | _ => true) := by
  unfold Decoded.bad
  cases d.cls <;> rfl

/-- The state in which a DRAIN completes, with the words it has written in `m`, over a state `u` that knows its occurrence. -/
theorem drain_ends {s u t : State} {a : ArrayNo} {w : BitVec 28} {m : List (Nat × Stored)}
    (hs : SameBeyondRepair s u) (hr : ReachesAt a s u)
    (ht : t = drainResult w (endTurn a (u.withMem m))) :
    SameSetting s t ∧ OnlyTurnEnded a s t ∧ t.queue = s.queue.filter (fun x => x.addr != w) ∧ t.port = s.port ∧
    t.scrub = s.scrub ∧ t.link = s.link ∧ SameControl u t := by
  subst ht
  refine ⟨⟨hs.params, hs.busReset, hs.supplyWarning, hs.epoch, hs.pending⟩, ⟨?_, fun b hb => ?_⟩, ?_, hs.port,
    hs.scrub, hs.link, rfl, rfl, rfl, rfl, rfl⟩
  · exact (turn_setTurn ..).trans (if_pos rfl)
  · exact ((turn_setTurn ..).trans (if_neg hb)).trans (hr.others b hb)
  · show queueRemove u.queue w = _
    rw [hs.queue]
    rfl

/-- The words a DRAIN leaves are those it has written, over the reset count as it was. -/
theorem word_drain_ends {u v : State} (he : u.epoch = v.epoch) (a b : ArrayNo) (w : BitVec 28) (j : PhysIndex) :
    (drainResult w (endTurn a (u.withMem v.mem))).word b j = v.word b j :=
  word_congr (s := v) (t := drainResult w (endTurn a (u.withMem v.mem))) rfl he b j

/-- A full-mask DRAIN over its turn's words (R38). -/
theorem exec_drainComplete_full {s : State} {a : ArrayNo} {flips : Stored} {w : BitVec 28} {data : Data} {poisoned : Bool}
    {rw : PhysIndex} {ws : List PhysIndex} {r : SteerRecord}
    (h : s.turn a = some { work := .drain w data fullMask poisoned rw ws, steer := r }) :
    exec (.drainComplete a flips) s =
      .next (drainResult w (endTurn a (s.withMem (setWords a (storedWord r data poisoned) ws s).mem))) := by
  show execDrainComplete a flips s = _
  rw [← setWords_eq_withMem]
  simp only [execDrainComplete, h, if_true, drainFull]

/-- A partial-mask DRAIN: the words written, then the occurrence of the word read (R35, R38). -/
theorem exec_drainComplete_partial {s : State} {a : ArrayNo} {flips : Stored} {w : BitVec 28} {data : Data} {mask : Byte}
    {poisoned : Bool} {rw : PhysIndex} {ws : List PhysIndex} {r : SteerRecord}
    (h : s.turn a = some { work := .drain w data mask poisoned rw ws, steer := r }) (hmask : mask ≠ fullMask) :
    exec (.drainComplete a flips) s = .next (drainResult w (endTurn a
      ((report a rw .drain (decodeNow s a rw r flips) s).withMem
        (setWords a (storedWord r (mergeBytes mask data (decodeNow s a rw r flips).data)
          (poisoned || (decodeNow s a rw r flips).bad)) ws (disturb a rw flips s)).mem))) := by
  show execDrainComplete a flips s = _
  rw [← report_withMem]
  simp only [execDrainComplete, h, if_neg hmask, drainPartial, readIn_disturb]
  rw [setWords_eq_withMem, disturb_eq_withMem]
  rfl

/-- Settles O33: by the mask, a write alone, or a read, a write and an occurrence. -/
theorem drainCompletes : Obligations.DrainCompletes := by
  intro s a flips w data mask poisoned rw ws r hturn
  by_cases hmask : mask = fullMask
  case pos =>
    subst hmask
    refine ⟨_, exec_drainComplete_full hturn, ?_⟩
    obtain ⟨hset, hend, hqueue, hport, hscrub, hlink, hcontrol⟩ := drain_ends (w := w) (.refl s) (.refl a s) rfl
    refine ⟨hset, hend, hqueue, hport, hscrub, hlink, fun _ => ⟨hcontrol, fun i hi => ?_, fun b j hj => ?_⟩,
      fun h => absurd rfl h⟩
    · rw [word_drain_ends (setWords_epoch ..).symm, word_setWords, if_pos ⟨rfl, hi⟩]
    · rw [word_drain_ends (setWords_epoch ..).symm, word_setWords, if_neg hj]
  case neg =>
    refine ⟨_, exec_drainComplete_partial hturn hmask, ?_⟩
    have hsame := report_same a rw .drain (decodeNow s a rw r flips) s
    obtain ⟨hset, hend, hqueue, hport, hscrub, hlink, hcontrol⟩ :=
      drain_ends (w := w) hsame (report_reachesAt a rw .drain (decodeNow s a rw r flips) s) rfl
    have hepoch (x : Stored) : (report a rw .drain (decodeNow s a rw r flips) s).epoch =
        (setWords a x ws (disturb a rw flips s)).epoch := by
      rw [hsame.epoch, setWords_epoch, disturb_epoch]
    refine ⟨hset, hend, hqueue, hport, hscrub, hlink, fun h => absurd h hmask,
      fun _ => ⟨hcontrol, fun i hi => ?_, fun hi => ?_, fun b j hj => ?_⟩⟩
    · refine Eq.trans ?_ (congrArg (fun b => storedWord r (mergeBytes mask data (decodeNow s a rw r flips).data)
        (poisoned || b)) (bad_eq (decodeNow s a rw r flips)))
      rw [word_drain_ends (hepoch _), word_setWords, if_pos ⟨rfl, hi⟩]
    · rw [word_drain_ends (hepoch _), word_setWords, if_neg (fun h => hi h.2), disturb_word_self]
    · have hj' : ¬(b = a ∧ j ∈ ws) := fun h => hj ⟨h.1, List.mem_cons_of_mem _ h.2⟩
      have hrw : ¬(b = a ∧ j = rw) := fun h => hj ⟨h.1, h.2 ▸ List.mem_cons_self⟩
      rw [word_drain_ends (hepoch _), word_setWords, if_neg hj', word_disturb, if_neg hrw]

end Sys2Proof.Machine
end

section
/-! The statement on occurrences (R52 to R58, R26, R43). -/

namespace Sys2Proof.Machine

set_option Elab.async false

/-! ## What the condemnations of an occurrence leave of an entry (R63) -/

/-- An entry after the condemnations: its state may be CONDEMNED, the rest of it is as recorded. -/
theorem DeliverMarks.slot_some {s u : State} {o : Occurrence} {p : MapEntry → Bool} (h : DeliverMarks s o p u)
    {j : Fin 64} {x : MapEntry} (hx : u.map.slot j = some x) :
    ∃ y, (deliver o s).map.slot j = some y ∧ { y with state := x.state } = x ∧
      (y.state = x.state ∨ (y.state = .condemned ∧ p x = true)) := by
  have hs := h.slot j
  rw [hx, Option.map_some] at hs
  refine ⟨_, hs, ?_⟩
  cases hp : p x with
  | true => exact ⟨rfl, .inr ⟨rfl, rfl⟩⟩
  | false => exact ⟨rfl, .inl rfl⟩

/-- An entry that a condemnation has not marked has the state it was recorded with. -/
theorem state_of_not_condemned {x y : MapEntry} {q : Prop} (h : y.state = x.state ∨ (y.state = .condemned ∧ q))
    (hy : y.state ≠ .condemned) : y.state = x.state := h.resolve_right fun g => hy g.1

/-- A slot that the recording leaves alone is kept, or marked for the occurrence's row or lane. -/
theorem DeliverMarks.kept {s u : State} {o : Occurrence} {p : MapEntry → Bool} (h : DeliverMarks s o p u) {j : Fin 64}
    (hj : u.map.slot j = s.map.slot j) : KeptOrCondemned o (s.map.slot j) ((deliver o s).map.slot j) := by
  refine ⟨fun hn => ?_, fun x hx => ?_⟩
  · rw [h.slot j, hj, hn, Option.map_none]
  · obtain ⟨y, hy, hfields, hstate⟩ := h.slot_some (hj.trans hx)
    refine ⟨y, hy, hfields, hstate.imp_right fun ⟨hc, hp⟩ => ?_⟩
    obtain ⟨harray, hplace⟩ := h.only x hp
    exact ⟨hc, harray, hplace⟩

/-- The occurrence's own flag stays raised, and MAP-FULL as it was, through the condemnations. -/
theorem DeliverMarks.flags_eq {s u : State} {o : Occurrence} {p : MapEntry → Bool} (h : DeliverMarks s o p u) {n : Nat}
    (hn : n = o.error.flag.bit ∨ n = 3) : (deliver o s).alert.flags.getLsbD n = u.alert.flags.getLsbD n := by
  obtain ⟨-, h4, h6, -⟩ := error_flag_bit o.error
  rcases hn with rfl | rfl
  · exact h.flags _ h4 h6
  · exact h.flags 3 (by decide) (by decide)

theorem AfterRecording.flag_set {s u : State} {o : Occurrence} (h : AfterRecording s o u) :
    u.alert.flags.getLsbD o.error.flag.bit = true := by
  cases h with
  | ins m' b i e r => exact raise_sets o.error.flag s
  | lost _ => exact raise_keeps (raise_sets o.error.flag s)

/-! ## The two ends of an occurrence -/

/-- What an occurrence leaves when it is recorded in slot `i` (R53 to R55, R58). -/
abbrev RecordedIn (s : State) (o : Occurrence) (i : Fin 64) (e : MapEntry) : Prop :=
  (deliver o s).map.slot i = some e ∧ o.hasKey e = true ∧
    (deliver o s).map.recency.getLast? = some i ∧
    (deliver o s).map.recency = s.map.recency.erase i ++ [i] ∧
    (deliver o s).alert.flags.getLsbD 3 = s.alert.flags.getLsbD 3 ∧
    (∀ j : Fin 64, j ≠ i → KeptOrCondemned o (s.map.slot j) ((deliver o s).map.slot j)) ∧
    e.lastColumn = o.column ∧ e.lastPass = s.scrub.pass ∧ e.lastOrigin = o.origin ∧
    e.lastClass = o.error.uncorrectable ∧
    (∀ (j : Fin 64) (old : MapEntry), s.map.slot j = some old → o.hasKey old = true →
      j = i ∧ e.occurrences = (if old.occurrences = 15 then 15 else old.occurrences + 1) ∧
      e.firstPass = old.firstPass ∧
      (e.state ≠ .condemned → e.state =
        if old.state = .watch ∧ s.params.suspectAt ≤ e.occurrences then .suspect else old.state)) ∧
    ((∀ (j : Fin 64) (old : MapEntry), s.map.slot j = some old → o.hasKey old = false) →
      e.occurrences = 1 ∧ e.firstPass = s.scrub.pass ∧
      (e.state ≠ .condemned → e.state =
        match o.error with
        | .fixed _ => if s.params.suspectAt ≤ 1 then .suspect else .watch
        | .blank => .suspect
        | .fault => .suspect) ∧
      ((∃ j : Fin 64, s.map.slot j = none) → s.map.slot i = none) ∧
      (∀ j : Fin 64, s.map.slot j = none → i ≤ j) ∧
      (∀ old : MapEntry, s.map.slot i = some old → old.state = .watch ∧
        ∃ before after : List (Fin 64), s.map.recency = before ++ i :: after ∧
          ∀ j ∈ before, ∀ x ∈ s.map.slot j, x.state ≠ .watch))

theorem DeliverMarks.recordedIn {s : State} {o : Occurrence} {p : MapEntry → Bool} {m' : FaultMap} {b : Bool}
    {i : Fin 64} {e : MapEntry} (h : DeliverMarks s o p { raise o.error.flag s with map := m' })
    (r : RecordedAs s.params.suspectAt s.scrub.pass o s.map m' b i e) : ∃ y, RecordedIn s o i y := by
  have hslot (j : Fin 64) : m'.slot j = if j = i then some e else s.map.slot j := by
    rw [r.eq, slot_setSlot_touch]
  have hrec : (deliver o s).map.recency = s.map.recency.erase i ++ [i] := by
    rw [h.recency]
    exact congrArg FaultMap.recency r.eq
  obtain ⟨y, hy, hfields, hstate⟩ := h.slot_some ((hslot i).trans (if_pos rfl))
  have harray : y.array = e.array := by rw [← hfields]
  have hrow : y.row = e.row := by rw [← hfields]
  have hlane : y.lane = e.lane := by rw [← hfields]
  have hocc : y.occurrences = e.occurrences := by rw [← hfields]
  have hfirst : y.firstPass = e.firstPass := by rw [← hfields]
  refine ⟨y, hy, ?_, ?_, hrec, ?_, fun j hj => ?_, ?_, ?_, ?_, ?_, fun j old hj hk => ?_, fun hno => ?_⟩
  · rw [hasKey_iff, harray, hrow, hlane, ← hasKey_iff]
    exact r.key
  · rw [hrec, List.getLast?_concat]
  · rw [h.flags_eq (.inr rfl)]
    have hne : ¬3 = o.error.flag.bit := (error_flag_bit o.error).1.symm
    rw [getLsbD_raise, decide_eq_false hne, Bool.or_false]
  · exact h.kept ((hslot j).trans (if_neg hj))
  · exact (congrArg MapEntry.lastColumn hfields).trans r.col
  · exact (congrArg MapEntry.lastPass hfields).trans r.pass
  · exact (congrArg MapEntry.lastOrigin hfields).trans r.org
  · exact (congrArg MapEntry.lastClass hfields).trans r.cls
  · obtain ⟨hji, hcount, hpass, hst, -⟩ := r.upd j old hj hk
    rw [hocc, hfirst]
    exact ⟨hji, hcount, hpass, fun hc => (state_of_not_condemned hstate hc).trans hst⟩
  · obtain ⟨hone, hpass, hst, hempty, hleast, hevict, -⟩ := r.new hno
    rw [hocc, hfirst]
    exact ⟨hone, hpass, fun hc => (state_of_not_condemned hstate hc).trans hst, hempty, hleast, hevict⟩

/-- A FAULT alone condemns without being recorded: it is the one class that needs no entry (R56, R60). -/
theorem DeliverMarks.map_of_lost {s u : State} {o : Occurrence} {p : MapEntry → Bool} (h : DeliverMarks s o p u)
    (hlost : ∀ j, ∃ e, s.map.slot j = some e ∧ e.state ≠ .watch ∧ o.hasKey e = false) (ho : o.error ≠ .fault) :
    deliver o s = u := by
  have hsus := not_becomesSuspect_of_lost hlost
  refine (h.neither ?_ fun l hl => hsus hl.2.1).1
  rintro (hf | ⟨-, hb, -⟩)
  · exact ho hf
  · exact hsus hb

/-- What an occurrence leaves when it is not recorded (R56). -/
abbrev NotRecorded (s : State) (o : Occurrence) : Prop :=
  (∀ j : Fin 64, ∃ e : MapEntry, s.map.slot j = some e ∧ e.state ≠ .watch ∧ o.hasKey e = false) ∧
    (deliver o s).alert.flags.getLsbD 3 = true ∧ (deliver o s).map.recency = s.map.recency ∧
    (o.error ≠ .fault → (deliver o s).map = s.map) ∧
    ∀ j : Fin 64, KeptOrCondemned o (s.map.slot j) ((deliver o s).map.slot j)

theorem DeliverMarks.notRecorded {s : State} {o : Occurrence} {p : MapEntry → Bool}
    (h : DeliverMarks s o p (raise .mapFull (raise o.error.flag s)))
    (hlost : ∀ j, ∃ e, s.map.slot j = some e ∧ e.state ≠ .watch ∧ o.hasKey e = false) : NotRecorded s o := by
  have hmap : (raise .mapFull (raise o.error.flag s)).map = s.map := by rw [raise_map, raise_map]
  refine ⟨hlost, ?_, ?_, fun ho => ?_, fun j => h.kept (congrArg (FaultMap.slot · j) hmap)⟩
  · rw [h.flags_eq (.inr rfl)]
    exact raise_sets .mapFull _
  · rw [h.recency, hmap]
  · rw [h.map_of_lost hlost ho, hmap]

/-! ## What a turn reports (R26, R43) -/

theorem report_some {d : Decoded} {e : ErrorClass} (h : d.error = some e) (a : ArrayNo) (i : PhysIndex) (g : Origin)
    (s : State) : report a i g d s =
      deliver { array := a, row := rowOf i, column := columnOf i, error := e, origin := g } s := by
  simp only [report, h]

/-- Settles O40: an occurrence is recorded or not, and the condemnations it sets off mark states alone. -/
theorem occurrencesAreRecorded : Obligations.OccurrencesAreRecorded := by
  refine ⟨fun s o hm => ?_, fun s a i g d => ⟨fun hd => report_none ?_ .., fun e he => report_some ?_ ..⟩⟩
  · obtain ⟨p, u, h⟩ := deliver_marks (o := o) hm
    refine ⟨(h.flags_eq (.inl rfl)).trans h.recd.flag_set, ?_⟩
    cases h.recd with
    | ins m' b i e r =>
      obtain ⟨y, hy⟩ := h.recordedIn r
      exact .inl ⟨i, y, hy⟩
    | lost hlost => exact .inr (h.notRecorded hlost)
  · rcases hd with hd | hd <;> simp only [Decoded.error, hd]
  · rcases he with ⟨n, hd, rfl⟩ | ⟨hd, rfl⟩ | ⟨hd, rfl⟩
    · exact error_of_fixed hd
    · simp only [Decoded.error, hd]
    · simp only [Decoded.error, hd]

end Sys2Proof.Machine
end

section
/-! SUPPORT. The operations on the Fault Map keep its entries in range, its keys distinct and its recency order over exactly
the occupied slots (R49 to R51). -/

namespace Sys2Proof.Machine

set_option Elab.async false

/-! ## Slots and membership -/

theorem slot_replicate_none (i : Fin 64) : FaultMap.slot { slots := Vector.replicate 64 none, recency := [] } i = none := by
  simp [FaultMap.slot, get_eq]

/-- A map with no entry meets the invariant (R71, R72). -/
theorem emptied_mapOk : MapOk FaultMap.emptied := by
  have hnone (i : Fin 64) : FaultMap.emptied.slot i = none := slot_replicate_none i
  refine ⟨fun i e he => ?_, fun i _ e he => ?_, List.nodup_nil, fun i => ?_⟩
  · rw [hnone i] at he
    cases he
  · rw [hnone i] at he
    cases he
  · simp [FaultMap.emptied, slot_replicate_none]

/-- An entry purged or aged out leaves the others, each in its slot, and their order (R51, R67, R68). -/
theorem removeWhere_mapOk {m : FaultMap} (h : MapOk m) (p : MapEntry → Bool) : MapOk (m.removeWhere p) := by
  obtain ⟨hentry, hkey, hnodup, hrecency⟩ := h
  have hsub (i : Fin 64) (e : MapEntry) (he : e ∈ (m.removeWhere p).slot i) : e ∈ m.slot i := by
    rw [slot_removeWhere] at he
    exact (Option.mem_filter_iff.mp he).1
  refine ⟨fun i e he => hentry i e (hsub i e he),
    fun i j e he f hf => hkey i j e (hsub i e he) f (hsub j f hf), hnodup.filter _, fun i => ?_⟩
  rw [slot_removeWhere]
  simp only [FaultMap.removeWhere, List.mem_filter, hrecency i]
  cases m.slot i with
  | none => simp
  | some e => cases hp : p e <;> simp [Option.filter, hp]

theorem removeSlot_mapOk {m : FaultMap} (h : MapOk m) (i : Fin 64) : MapOk (m.removeSlot i) := by
  obtain ⟨hentry, hkey, hnodup, hrecency⟩ := h
  have hsub (j : Fin 64) (e : MapEntry) (he : e ∈ (m.removeSlot i).slot j) : e ∈ m.slot j := by
    rw [slot_removeSlot] at he
    split at he
    · cases he
    · exact he
  refine ⟨fun j e he => hentry j e (hsub j e he),
    fun j k e he f hf => hkey j k e (hsub j e he) f (hsub k f hf), hnodup.erase i, fun j => ?_⟩
  have hmem : j ∈ (m.removeSlot i).recency ↔ j ≠ i ∧ j ∈ m.recency := hnodup.mem_erase_iff
  rw [hmem, slot_removeSlot, hrecency j]
  split
  · simp [*]
  · simp [*]

/-- A change of entries that keeps keys and ranges keeps the map. -/
theorem mapSlots_mapOk {m m' : FaultMap} (h : MapOk m) (f : MapEntry → MapEntry)
    (hslot : ∀ i, m'.slot i = (m.slot i).map f) (hrec : m'.recency = m.recency)
    (hkeep : ∀ e, (f e).array = e.array ∧ (f e).row = e.row ∧ (f e).lane = e.lane)
    (hok : ∀ i, ∀ e ∈ m.slot i, MapEntryOk (f e)) : MapOk m' := by
  obtain ⟨hentry, hkey, hnodup, hrecency⟩ := h
  have himage {i : Fin 64} {e : MapEntry} (he : e ∈ m'.slot i) : ∃ x ∈ m.slot i, f x = e := by
    rw [hslot] at he
    exact Option.mem_map.mp he
  refine ⟨fun i e he => ?_, fun i j e he g hg ha hr hl => ?_, hrec ▸ hnodup, fun i => ?_⟩
  · obtain ⟨x, hx, rfl⟩ := himage he
    exact hok i x hx
  · obtain ⟨x, hx, rfl⟩ := himage he
    obtain ⟨y, hy, rfl⟩ := himage hg
    obtain ⟨hxa, hxr, hxl⟩ := hkeep x
    obtain ⟨hya, hyr, hyl⟩ := hkeep y
    exact hkey i j x hx y hy (hxa ▸ hya ▸ ha) (hxr ▸ hyr ▸ hr) (hxl ▸ hyl ▸ hl)
  · rw [hrec, hslot, hrecency i, Option.isSome_map]

/-- Marking CONDEMNED changes states alone (R63). -/
theorem condemnWhere_mapOk {m : FaultMap} (h : MapOk m) (p : MapEntry → Bool) : MapOk (m.condemnWhere p) := by
  refine mapSlots_mapOk h _ (slot_condemnWhere m p) rfl (fun e => ?_) (fun i e he => ?_)
  · split <;> exact ⟨rfl, rfl, rfl⟩
  · obtain ⟨hrow, hocc, hcol, hlane, hwatch⟩ := h.1 i e he
    split
    · exact ⟨hrow, hocc, hcol, hlane, fun _ => nofun⟩
    · exact ⟨hrow, hocc, hcol, hlane, hwatch⟩

theorem slot_aged (p : BitVec 16) (m : FaultMap) (i : Fin 64) :
    (m.aged p).slot i = ((m.removeWhere (MapEntry.agesOut p)).slot i).map (MapEntry.age p) := by
  simp only [FaultMap.slot, FaultMap.aged, get_eq, Vector.getElem_map]

/-- Aging halves counts; an entry whose count would reach zero has been removed (R65). -/
theorem aged_mapOk {m : FaultMap} (h : MapOk m) (p : BitVec 16) : MapOk (m.aged p) := by
  have hrest := removeWhere_mapOk h (MapEntry.agesOut p)
  refine mapSlots_mapOk hrest (MapEntry.age p) (slot_aged p m) rfl (fun e => ?_) (fun i e he => ?_)
  · unfold MapEntry.age
    split <;> exact ⟨rfl, rfl, rfl⟩
  · have hstays : e.agesOut p = false := by
      rw [slot_removeWhere] at he
      simpa using (Option.mem_filter_iff.mp he).2
    obtain ⟨hrow, ⟨hlow, hhigh⟩, hcol, hlane, hwatch⟩ := hrest.1 i e he
    unfold MapEntry.age
    split
    · rename_i hage
      have hhalf : e.occurrences / 2 ≠ 0 := by
        simpa [MapEntry.agesOut, hage.1, hage.2] using hstays
      exact ⟨hrow, ⟨by dsimp only; omega, by dsimp only; omega⟩, hcol, hlane, hwatch⟩
    · exact ⟨hrow, ⟨hlow, hhigh⟩, hcol, hlane, hwatch⟩

/-! ## Recording (R53 to R55) -/

/-- The entry recorded is in range, when the occurrence is of a physical word (R50, R52). -/
theorem RecordedAs.entryOk {sa : Nat} {p : BitVec 16} {o : Occurrence} {m m' : FaultMap} {b : Bool} {i : Fin 64}
    {e : MapEntry} (hm : MapOk m) (r : RecordedAs sa p o m m' b i e) (hrow : o.row < physRows)
    (hcol : o.column < columns) : MapEntryOk e := by
  obtain ⟨-, hkrow, hklane⟩ := (hasKey_iff o e).mp r.key
  have hclass : e.lane.isNone = e.lastClass.isSome := by
    rw [hklane, r.cls]
    cases o.error <;> rfl
  have hcase : (∃ j old, m.slot j = some old ∧ o.hasKey old = true) ∨
      ∀ j old, m.slot j = some old → o.hasKey old = false := by
    by_cases hex : ∃ j old, m.slot j = some old ∧ o.hasKey old = true
    · exact .inl hex
    · exact .inr fun j old hj => Bool.eq_false_iff.mpr fun hk => hex ⟨j, old, hj, hk⟩
  have hcount : (1 ≤ e.occurrences ∧ e.occurrences ≤ 15) ∧ (e.lane = none → e.state ≠ .watch) := by
    rcases hcase with ⟨j, old, hj, hk⟩ | hno
    · obtain ⟨-, hocc, -, hstate, -⟩ := r.upd j old hj hk
      obtain ⟨-, ⟨hlow, hhigh⟩, -, -, hwatch⟩ := hm.1 j old hj
      refine ⟨by split at hocc <;> omega, fun hn => ?_⟩
      have hold : old.state ≠ .watch := hwatch (((hasKey_iff o old).mp hk).2.2.trans (hklane ▸ hn))
      rw [hstate, if_neg fun h => hold h.1]
      exact hold
    · obtain ⟨hocc, -, hstate, -⟩ := r.new hno
      refine ⟨by omega, fun hn => ?_⟩
      rw [hklane] at hn
      cases ho : o.error with
      | fixed l =>
        rw [ho] at hn
        cases hn
      | blank | fault =>
        rw [ho] at hstate
        rw [hstate]
        nofun
  exact ⟨hkrow ▸ hrow, hcount.1, r.col ▸ hcol, hclass, hcount.2⟩

/-- Any slot that holds the occurrence's key is the slot it is recorded in (R49). -/
theorem RecordedAs.slot_of_key {sa : Nat} {p : BitVec 16} {o : Occurrence} {m m' : FaultMap} {b : Bool} {i : Fin 64}
    {e : MapEntry} (r : RecordedAs sa p o m m' b i e) {j : Fin 64} {f : MapEntry} (hj : m.slot j = some f)
    (ha : f.array = e.array) (hr : f.row = e.row) (hl : f.lane = e.lane) : j = i := by
  obtain ⟨hka, hkr, hkl⟩ := (hasKey_iff o e).mp r.key
  exact (r.upd j f hj ((hasKey_iff o f).mpr ⟨ha.trans hka, hr.trans hkr, hl.trans hkl⟩)).1

theorem RecordedAs.mapOk {sa : Nat} {p : BitVec 16} {o : Occurrence} {m m' : FaultMap} {b : Bool} {i : Fin 64}
    {e : MapEntry} (hm : MapOk m) (r : RecordedAs sa p o m m' b i e) (hrow : o.row < physRows)
    (hcol : o.column < columns) : MapOk m' := by
  have hslot (j : Fin 64) : m'.slot j = if j = i then some e else m.slot j := by
    rw [r.eq, slot_setSlot_touch]
  have hrec : m'.recency = m.recency.erase i ++ [i] := congrArg FaultMap.recency r.eq
  obtain ⟨hentry, hkey, hnodup, hrecency⟩ := hm
  have hcases {j : Fin 64} {x : MapEntry} (hx : x ∈ m'.slot j) : (j = i ∧ x = e) ∨ (j ≠ i ∧ m.slot j = some x) := by
    rw [hslot] at hx
    split at hx
    · exact .inl ⟨‹_›, (Option.some.inj hx).symm⟩
    · exact .inr ⟨‹_›, hx⟩
  refine ⟨fun j x hx => ?_, fun j k x hx y hy ha hr hl => ?_, ?_, fun j => ?_⟩
  · rcases hcases hx with ⟨-, rfl⟩ | ⟨-, hx⟩
    · exact r.entryOk ⟨hentry, hkey, hnodup, hrecency⟩ hrow hcol
    · exact hentry j x hx
  · rcases hcases hx with ⟨rfl, rfl⟩ | ⟨hj, hx⟩ <;> rcases hcases hy with ⟨rfl, rfl⟩ | ⟨hk, hy⟩
    · rfl
    · exact (r.slot_of_key hy ha.symm hr.symm hl.symm).symm
    · exact r.slot_of_key hx ha hr hl
    · exact hkey j k x hx y hy ha hr hl
  · rw [hrec, List.nodup_append]
    refine ⟨hnodup.erase i, List.nodup_singleton i, fun x hx y hy => ?_⟩
    rw [List.mem_singleton.mp hy]
    exact (hnodup.mem_erase_iff.mp hx).1
  · rw [hrec, hslot, List.mem_append, hnodup.mem_erase_iff, List.mem_singleton, hrecency j]
    by_cases hj : j = i <;> simp [hj]

end Sys2Proof.Machine
end

section
/-! SUPPORT. The operations on the Substitution Table keep each host row in at most one entry, each spare in use by at most
one entry, and IN-USE exactly the spares in use (R73, R74). -/

namespace Sys2Proof.Machine

set_option Elab.async false

/-! ## Who uses a spare -/

/-- A place of the table has an entry that uses a spare of an array as target or source (R74). -/
def usesAt (a : ArrayNo) (p : SpareNo) (x : Option SubEntry) : Prop := ∃ e ∈ x, a = e.array ∧ e.uses p = true

@[simp] theorem usesAt_none (a : ArrayNo) (p : SpareNo) : ¬usesAt a p none := by
  rintro ⟨e, he, -⟩
  cases he

theorem usesAt_some (a : ArrayNo) (p : SpareNo) (e : SubEntry) :
    usesAt a p (some e) ↔ a = e.array ∧ e.uses p = true := by
  simp [usesAt]

theorem any_uses_iff (a : ArrayNo) (p : SpareNo) (x : Option SubEntry) :
    x.any (fun e => decide (e.array = a) && e.uses p) = true ↔ usesAt a p x := by
  cases x with
  | none => simp
  | some e => simp [usesAt_some, eq_comm (a := a)]

theorem uses_iff (e : SubEntry) (p : SpareNo) : e.uses p = true ↔ p = e.target ∨ e.sourceIs p = true := by
  simp [SubEntry.uses, eq_comm (a := p)]

/-- An entry that copies from no spare uses its target alone (R74). -/
theorem usesAt_of_no_source {e : SubEntry} (h : e.phase = .active ∨ ∃ c, e.phase = .copying .hostRow c) (a : ArrayNo)
    (p : SpareNo) : usesAt a p (some e) ↔ a = e.array ∧ p = e.target := by
  rcases h with h | ⟨c, h⟩ <;> simp [usesAt_some, uses_iff, SubEntry.sourceIs, h]

/-- An entry that copies from a spare uses that spare too (R74). -/
theorem usesAt_of_source {e : SubEntry} {t : SpareNo} {c : Nat} (h : e.phase = .copying (.spare t) c) (a : ArrayNo)
    (p : SpareNo) : usesAt a p (some e) ↔ a = e.array ∧ (p = e.target ∨ p = t) := by
  simp [usesAt_some, uses_iff, SubEntry.sourceIs, h, eq_comm (a := p) (b := t)]

/-- A spare that an entry uses is IN-USE (R74). -/
theorem SubsOk.inUse {s : State} (hs : SubsOk s) {i : Fin 32} {a : ArrayNo} {p : SpareNo}
    (h : usesAt a p (s.subs.table.get i)) : s.spare a p = .inUse :=
  (hs.2.2.2 a p).mpr ⟨i, (any_uses_iff a p _).mpr h⟩

theorem SubsOk.exists_user {s : State} (hs : SubsOk s) {a : ArrayNo} {p : SpareNo} (h : s.spare a p = .inUse) :
    ∃ i, usesAt a p (s.subs.table.get i) := by
  obtain ⟨i, hi⟩ := (hs.2.2.2 a p).mp h
  exact ⟨i, (any_uses_iff a p _).mp hi⟩

/-- One entry at most uses a spare (R74). -/
theorem SubsOk.user_unique {s : State} (hs : SubsOk s) {i j : Fin 32} {a : ArrayNo} {p : SpareNo}
    (hi : usesAt a p (s.subs.table.get i)) (hj : usesAt a p (s.subs.table.get j)) : i = j := by
  obtain ⟨e, he, rfl, hep⟩ := hi
  obtain ⟨f, hf, ha, hfp⟩ := hj
  exact hs.2.2.1 i j e he f hf ha p hep hfp

/-! ## One place of the table changed -/

/-- What a new value of place `i`, with the spares set for it in `x`, must meet for the table to stay in order. -/
structure Replaces (s x : State) (i : Fin 32) (new : Option SubEntry) : Prop where
  table : x.subs.table = s.subs.table
  entry : ∀ e, new = some e → SubEntryOk e
  row : ∀ e, new = some e → ∀ j, j ≠ i → ∀ f, s.subs.table.get j = some f → e.array = f.array → e.hostRow ≠ f.hostRow
  taken : ∀ a p, usesAt a p new → usesAt a p (s.subs.table.get i) ∨ s.spare a p ≠ .inUse
  spares : ∀ a p, x.spare a p = .inUse ↔
    usesAt a p new ∨ (s.spare a p = .inUse ∧ ¬usesAt a p (s.subs.table.get i))

/-- A spare of the new value is used nowhere else. -/
theorem Replaces.not_used_elsewhere {s x : State} {i : Fin 32} {new : Option SubEntry} (h : Replaces s x i new)
    (hs : SubsOk s) {a : ArrayNo} {p : SpareNo} (hn : usesAt a p new) {j : Fin 32}
    (hj : usesAt a p (s.subs.table.get j)) : j = i := by
  rcases h.taken a p hn with hi | hfree
  · exact hs.user_unique hj hi
  · exact absurd (hs.inUse hj) hfree

theorem Replaces.subsOk {s x : State} {i : Fin 32} {new : Option SubEntry} (h : Replaces s x i new) (hs : SubsOk s) :
    SubsOk (setEntry i new x) := by
  have htable (j : Fin 32) : (setEntry i new x).subs.table.get j = if j = i then new else s.subs.table.get j := by
    rw [table_setEntry, h.table]
  have hcases {j : Fin 32} {e : SubEntry} (he : e ∈ (setEntry i new x).subs.table.get j) :
      (j = i ∧ e ∈ new) ∨ (j ≠ i ∧ e ∈ s.subs.table.get j) := by
    rw [htable] at he
    split at he
    · exact .inl ⟨‹_›, he⟩
    · exact .inr ⟨‹_›, he⟩
  refine ⟨fun j e he => ?_, fun j k e he f hf ha hr => ?_, fun j k e he f hf ha p hep hfp => ?_, fun a p => ?_⟩
  · rcases hcases he with ⟨-, he⟩ | ⟨-, he⟩
    · exact h.entry e he
    · exact hs.1 j e he
  · rcases hcases he with ⟨rfl, he'⟩ | ⟨hj, he'⟩ <;> rcases hcases hf with ⟨rfl, hf'⟩ | ⟨hk, hf'⟩
    · rfl
    · exact absurd hr (h.row e he' k hk f hf' ha)
    · exact absurd hr.symm (h.row f hf' j hj e he' ha.symm)
    · exact hs.2.1 j k e he' f hf' ha hr
  · rcases hcases he with ⟨rfl, he'⟩ | ⟨hj, he'⟩ <;> rcases hcases hf with ⟨rfl, hf'⟩ | ⟨hk, hf'⟩
    · rfl
    · exact (h.not_used_elsewhere hs ⟨e, he', rfl, hep⟩ ⟨f, hf', ha, hfp⟩).symm
    · exact h.not_used_elsewhere hs ⟨f, hf', ha, hfp⟩ ⟨e, he', rfl, hep⟩
    · exact hs.2.2.1 j k e he' f hf' ha p hep hfp
  · simp only [any_uses_iff, spare_setEntry, h.spares, htable]
    constructor
    · rintro (hn | ⟨hp, hi⟩)
      · exact ⟨i, by rw [if_pos rfl]; exact hn⟩
      · obtain ⟨j, hj⟩ := hs.exists_user hp
        refine ⟨j, ?_⟩
        rw [if_neg (by rintro rfl; exact hi hj)]
        exact hj
    · rintro ⟨j, hj⟩
      split at hj
      · exact .inl hj
      · exact .inr ⟨hs.inUse hj, fun hi => absurd (hs.user_unique hj hi) ‹_›⟩

/-- A new value that keeps the array and host row of the entry it replaces meets no other entry of that row. -/
theorem row_of_same {s : State} (hs : SubsOk s) {i : Fin 32} {e : SubEntry} (hi : s.subs.table.get i = some e)
    {new : Option SubEntry} (hnew : ∀ e', new = some e' → e'.array = e.array ∧ e'.hostRow = e.hostRow) (e' : SubEntry)
    (he' : new = some e') (j : Fin 32) (hj : j ≠ i) (f : SubEntry) (hf : s.subs.table.get j = some f)
    (ha : e'.array = f.array) : e'.hostRow ≠ f.hostRow := by
  obtain ⟨hea, her⟩ := hnew e' he'
  exact fun hr => hj (hs.2.1 j i f hf e hi (ha.symm.trans hea) (hr.symm.trans her))

/-- Spares whose use has not changed keep the table in order. -/
theorem subsOk_of_spares {s t : State} (hs : SubsOk s) (htable : t.subs.table = s.subs.table)
    (hspare : ∀ a p, t.spare a p = .inUse ↔ s.spare a p = .inUse) : SubsOk t := by
  obtain ⟨hentry, hrow, huse, hspares⟩ := hs
  refine ⟨?_, ?_, ?_, fun a p => ?_⟩
  · rwa [htable]
  · rwa [htable]
  · rwa [htable]
  · rw [hspare, hspares, htable]

/-! ## The operations (R77 to R80, R84, R85, R88 to R90) -/

/-- A FREE entry taken for a host row without one, on a FREE spare (R77, R89). -/
theorem newEntry_subsOk {s : State} (hs : SubsOk s) {i : Fin 32} {e : SubEntry} (hi : s.subs.table.get i = none)
    (hp : s.spare e.array e.target = .free) (hrow : e.hostRow < hostRows) (hfor : entryFor s e.array e.hostRow = none)
    (hphase : e.phase = .active ∨ e.phase = .copying .hostRow 0) :
    SubsOk (setEntry i (some e) (setSpare e.array e.target .inUse s)) := by
  have huses := usesAt_of_no_source (hphase.imp_right fun h => ⟨0, h⟩)
  refine Replaces.subsOk ⟨table_setSpare .., fun e' he => ?_, fun e' he j _ f hf ha hr => ?_, fun a p hu => ?_,
    fun a p => ?_⟩ hs
  · cases he
    refine ⟨hrow, ?_, ?_⟩
    · rcases hphase with h | h <;> simp [SubEntry.sourceIs, h]
    · rcases hphase with h | h <;> simp [h]
  · cases he
    exact entryFor_eq_none_iff.mp hfor j f hf ⟨ha.symm, hr.symm⟩
  · obtain ⟨rfl, rfl⟩ := (huses a p).mp hu
    exact .inr (by rw [hp]; nofun)
  · rw [spare_setSpare, huses, hi]
    split <;> simp [*]

/-- A copy begun from the target of an ACTIVE entry to a FREE spare (R79). -/
theorem retarget_subsOk {s : State} (hs : SubsOk s) {i : Fin 32} {e : SubEntry} (hi : s.subs.table.get i = some e)
    (hphase : e.phase = .active) {t : SpareNo} (ht : s.spare e.array t = .free) (o : RepairOrigin) :
    SubsOk (setEntry i (some { e with phase := .copying (.spare e.target) 0, target := t, origin := o })
      (setSpare e.array t .inUse s)) := by
  have hold := usesAt_of_no_source (.inl hphase)
  have hnew := usesAt_of_source (e := { e with phase := .copying (.spare e.target) 0, target := t, origin := o }) rfl
  have hinUse : s.spare e.array e.target = .inUse := hs.inUse (i := i) (by rw [hi, hold]; exact ⟨rfl, rfl⟩)
  have hne : e.target ≠ t := by
    rintro rfl
    rw [hinUse] at ht
    cases ht
  refine Replaces.subsOk ⟨table_setSpare .., fun e' he => ?_, row_of_same hs hi fun e' he => ?_, fun a p hu => ?_,
    fun a p => ?_⟩ hs
  · cases he
    exact ⟨(hs.1 i e hi).1, by simpa [SubEntry.sourceIs] using hne, rfl⟩
  · cases he
    exact ⟨rfl, rfl⟩
  · obtain ⟨rfl, rfl | rfl⟩ := (hnew a p).mp hu
    · exact .inr (by rw [ht]; nofun)
    · exact .inl (by rw [hi, hold]; exact ⟨rfl, rfl⟩)
  · rw [spare_setSpare, hnew, hi, hold]
    by_cases ha : a = e.array
    · subst ha
      by_cases hpt : p = t
      · simp [hpt]
      · by_cases hpe : p = e.target <;> simp [hpt, hpe, hinUse]
    · simp [ha]

/-- The spares a COPYING entry uses besides its target: its source, if that is a spare (R74). -/
theorem usesAt_copying {e : SubEntry} {src : CopySource} {c : Nat} (h : e.phase = .copying src c) (a : ArrayNo)
    (p : SpareNo) : usesAt a p (some e) ↔ a = e.array ∧ (p = e.target ∨ src = .spare p) := by
  cases src with
  | hostRow => simp [usesAt_of_no_source (.inr ⟨c, h⟩)]
  | spare t => simp [usesAt_of_source h, eq_comm (a := p) (b := t)]

/-- A copy does not read the spare it writes (R74). -/
theorem SubEntryOk.source_ne_target {e : SubEntry} (h : SubEntryOk e) {src : CopySource} {c : Nat}
    (hphase : e.phase = .copying src c) : src ≠ .spare e.target := by
  rintro rfl
  have := h.2.1
  simp [SubEntry.sourceIs, hphase] at this

/-- A copy whose target is RETIRED restarts to a FREE spare (R80). -/
theorem restart_subsOk {s x : State} (hs : SubsOk s) {i : Fin 32} {e : SubEntry} (hi : s.subs.table.get i = some e)
    {src : CopySource} {c : Nat} (hphase : e.phase = .copying src c) {t : SpareNo} (ht : s.spare e.array t = .free)
    (htable : x.subs.table = s.subs.table)
    (hx : ∀ a p, x.spare a p = if a = e.array ∧ p = t then .inUse
      else if a = e.array ∧ p = e.target then .retired else s.spare a p) :
    SubsOk (setEntry i (some { e with phase := .copying src 0, target := t }) x) := by
  have hold := usesAt_copying hphase
  have hnew := usesAt_copying (e := { e with phase := .copying src 0, target := t }) rfl
  have hinUse {a : ArrayNo} {p : SpareNo} (h : a = e.array ∧ (p = e.target ∨ src = .spare p)) : s.spare a p = .inUse :=
    hs.inUse (i := i) (by rw [hi, hold]; exact h)
  have hfree {a : ArrayNo} {p : SpareNo} (ha : a = e.array) (h : p = e.target ∨ src = .spare p) : p ≠ t := by
    rintro rfl
    subst ha
    rw [hinUse ⟨rfl, h⟩] at ht
    cases ht
  have hsrc := (hs.1 i e hi).source_ne_target hphase
  refine Replaces.subsOk ⟨htable, fun e' he => ?_, row_of_same hs hi fun e' he => ?_, fun a p hu => ?_,
    fun a p => ?_⟩ hs
  · cases he
    refine ⟨(hs.1 i e hi).1, ?_, rfl⟩
    cases src with
    | hostRow => rfl
    | spare p => exact beq_false_of_ne (hfree rfl (.inr rfl))
  · cases he
    exact ⟨rfl, rfl⟩
  · obtain ⟨rfl, rfl | hp⟩ := (hnew a p).mp hu
    · exact .inr (by rw [ht]; nofun)
    · exact .inl (by rw [hi, hold]; exact ⟨rfl, .inr hp⟩)
  · rw [hx, hnew, hi, hold]
    by_cases ha : a = e.array
    · subst ha
      by_cases hpt : p = t
      · simp [hpt]
      · by_cases hpe : p = e.target
        · simp [hpe, hsrc, hfree]
        · by_cases hps : src = .spare p <;> simp [hpt, hpe, hps, hinUse]
    · simp [ha]

/-- A copy given up or cancelled leaves its entry FREE, or ACTIVE on the source spare; its target is no longer IN-USE
(R80, R88). -/
theorem givenUp_subsOk {s x : State} (hs : SubsOk s) {i : Fin 32} {e : SubEntry} (hi : s.subs.table.get i = some e)
    {src : CopySource} {c : Nat} (hphase : e.phase = .copying src c) {st : SpareStatus} (hst : st ≠ .inUse)
    (htable : x.subs.table = s.subs.table)
    (hx : ∀ a p, x.spare a p = if a = e.array ∧ p = e.target then st else s.spare a p) :
    SubsOk (setEntry i (e.givenUp src) x) := by
  have hold := usesAt_copying hphase
  have hsrc := (hs.1 i e hi).source_ne_target hphase
  have hnew (a : ArrayNo) (p : SpareNo) : usesAt a p (e.givenUp src) ↔ a = e.array ∧ src = .spare p := by
    cases src with
    | hostRow => simp [SubEntry.givenUp]
    | spare t =>
      simp only [SubEntry.givenUp]
      rw [usesAt_of_no_source (.inl rfl)]
      simp [eq_comm (a := p)]
  have hinUse {a : ArrayNo} {p : SpareNo} (h : a = e.array ∧ src = .spare p) : s.spare a p = .inUse :=
    hs.inUse (i := i) (by rw [hi, hold]; exact ⟨h.1, .inr h.2⟩)
  have hsame (e' : SubEntry) (he : e.givenUp src = some e') :
      e'.array = e.array ∧ e'.hostRow = e.hostRow ∧ e'.phase = .active := by
    cases src <;> cases he
    exact ⟨rfl, rfl, rfl⟩
  refine Replaces.subsOk ⟨htable, fun e' he => ?_, row_of_same hs hi fun e' he => ?_, fun a p hu => ?_,
    fun a p => ?_⟩ hs
  · obtain ⟨-, hr, ha⟩ := hsame e' he
    refine ⟨hr ▸ (hs.1 i e hi).1, ?_, ?_⟩ <;> simp [SubEntry.sourceIs, ha]
  · obtain ⟨ha, hr, -⟩ := hsame e' he
    exact ⟨ha, hr⟩
  · obtain ⟨ha, hp⟩ := (hnew a p).mp hu
    exact .inl (by rw [hi, hold]; exact ⟨ha, .inr hp⟩)
  · rw [hx, hnew, hi, hold]
    by_cases ha : a = e.array
    · subst ha
      by_cases hpe : p = e.target
      · simp [hpe, hst, hsrc]
      · by_cases hps : src = .spare p <;> simp [hpe, hps, hinUse]
    · simp [ha]

/-- A cursor moved within its row (R84). -/
theorem moveCopy_subsOk {s : State} (hs : SubsOk s) {i : Fin 32} {e : SubEntry} (hi : s.subs.table.get i = some e)
    {src : CopySource} {c d : Nat} (hphase : e.phase = .copying src c) (hd : d < columns) :
    SubsOk (setEntry i (some { e with phase := .copying src d }) s) := by
  have hold := usesAt_copying hphase
  have hnew := usesAt_copying (e := { e with phase := .copying src d }) rfl
  have hsrc := (hs.1 i e hi).source_ne_target hphase
  refine Replaces.subsOk ⟨rfl, fun e' he => ?_, row_of_same hs hi fun e' he => ?_, fun a p hu => .inl ?_,
    fun a p => ?_⟩ hs
  · cases he
    refine ⟨(hs.1 i e hi).1, ?_, decide_eq_true hd⟩
    cases src with
    | hostRow => rfl
    | spare p => exact beq_false_of_ne fun h => hsrc (congrArg _ h)
  · cases he
    exact ⟨rfl, rfl⟩
  · rw [hi, hold]
    exact (hnew a p).mp hu
  · rw [hnew, hi, hold]
    constructor
    · intro h
      by_cases hu : a = e.array ∧ (p = e.target ∨ src = .spare p)
      · exact .inl hu
      · exact .inr ⟨h, hu⟩
    · rintro (hu | ⟨h, -⟩)
      · exact hs.inUse (i := i) (by rw [hi, hold]; exact hu)
      · exact h

/-- A completed copy leaves its entry ACTIVE on its target, and its source spare RETIRED (R85). -/
theorem completeCopy_subsOk {s : State} (hs : SubsOk s) {i : Fin 32} {e : SubEntry} (hi : s.subs.table.get i = some e)
    {src : CopySource} {c : Nat} (hphase : e.phase = .copying src c) :
    SubsOk (setEntry i (some { e with phase := .active }) (retireSource e.array src s)) := by
  have hold := usesAt_copying hphase
  have hnew := usesAt_of_no_source (e := { e with phase := .active }) (.inl rfl)
  have hsrc := (hs.1 i e hi).source_ne_target hphase
  have hspare (a : ArrayNo) (p : SpareNo) : (retireSource e.array src s).spare a p =
      if a = e.array ∧ src = .spare p then .retired else s.spare a p := by
    cases src with
    | hostRow => simp [retireSource]
    | spare t => simp [retireSource, eq_comm (a := p)]
  refine Replaces.subsOk ⟨?_, fun e' he => ?_, row_of_same hs hi fun e' he => ?_, fun a p hu => .inl ?_,
    fun a p => ?_⟩ hs
  · cases src <;> rfl
  · cases he
    exact ⟨(hs.1 i e hi).1, rfl, rfl⟩
  · cases he
    exact ⟨rfl, rfl⟩
  · obtain ⟨ha, hp⟩ := (hnew a p).mp hu
    rw [hi, hold]
    exact ⟨ha, .inl hp⟩
  · rw [hspare, hnew, hi, hold]
    by_cases ha : a = e.array
    · subst ha
      by_cases hps : src = .spare p
      · have hpe : p ≠ e.target := by
          rintro rfl
          exact hsrc hps
        simp [hps, hpe]
      · by_cases hpe : p = e.target
        · have hinUse : s.spare e.array e.target = .inUse :=
            hs.inUse (i := i) (by rw [hi, hold]; exact ⟨rfl, .inl rfl⟩)
          simp [hsrc, hpe, hinUse]
        · simp [hps, hpe]
    · simp [ha]

/-- A spare that no entry uses is RETIRED (R90). -/
theorem retireFree_subsOk {s : State} (hs : SubsOk s) {a : ArrayNo} {t : SpareNo} (h : s.spare a t = .free) :
    SubsOk (setSpare a t .retired s) := by
  refine subsOk_of_spares hs rfl fun b p => ?_
  rw [spare_setSpare]
  split
  · rename_i hb
    obtain ⟨rfl, rfl⟩ := hb
    simp [h]
  · rfl

end Sys2Proof.Machine
end

section
/-! SUPPORT. Bytes merged under a mask (R127, R132, R38), bit by bit; and what the operations on the Write Queue and the
Outstanding Read List keep (R124 to R128, R136, R137, R143, R147). -/

namespace Sys2Proof.Machine

set_option Elab.async false

/-! ## Merging bytes -/

/-- The bits of one byte of ones. -/
theorem getLsbD_ones_shiftLeft {k i : Nat} (hi : i < 64) :
    ((0xFF : Data) <<< (8 * k)).getLsbD i = decide (i / 8 = k) := by
  have hones : ∀ j : Fin 64, (0xFF : Data).getLsbD j.val = decide (j.val < 8) := by decide
  rw [BitVec.getLsbD_shiftLeft, decide_eq_true hi, hones ⟨i - 8 * k, by omega⟩, Bool.eq_iff_iff]
  simp
  omega

/-- The bits of the bytes below `k` under a mask. -/
theorem getLsbD_foldl_maskBits (mask : Byte) (k : Nat) {i : Nat} (hi : i < 64) :
    ((List.range k).foldl (fun acc b => if mask.getLsbD b then acc ||| ((0xFF : Data) <<< (8 * b)) else acc) 0).getLsbD i
      = (decide (i / 8 < k) && mask.getLsbD (i / 8)) := by
  induction k with
  | zero => simp
  | succ k ih =>
    rw [List.range_succ, List.foldl_append, List.foldl_cons, List.foldl_nil, apply_ite (BitVec.getLsbD · i),
      BitVec.getLsbD_or, ih, getLsbD_ones_shiftLeft hi]
    by_cases hik : i / 8 = k
    · subst hik
      cases mask.getLsbD (i / 8) <;> simp
    · have hlt : i / 8 < k + 1 ↔ i / 8 < k := by omega
      simp [hik, hlt]

theorem getLsbD_maskBits (mask : Byte) {i : Nat} (hi : i < 64) : (maskBits mask).getLsbD i = mask.getLsbD (i / 8) := by
  rw [maskBits, getLsbD_foldl_maskBits mask 8 hi, decide_eq_true (by omega), Bool.true_and]

/-- One bit of a merge: from the new data under the mask, from the old elsewhere. -/
theorem getLsbD_mergeBytes (mask : Byte) (new old : Data) {i : Nat} (hi : i < 64) :
    (mergeBytes mask new old).getLsbD i = if mask.getLsbD (i / 8) then new.getLsbD i else old.getLsbD i := by
  rw [mergeBytes, BitVec.getLsbD_or, BitVec.getLsbD_and, BitVec.getLsbD_and, BitVec.getLsbD_not,
    getLsbD_maskBits mask hi, decide_eq_true hi]
  cases mask.getLsbD (i / 8) <;> simp

/-- Bytes outside a mask stay zero once cleared (log 15). -/
theorem mergeBytes_mergeBytes_zero (mask : Byte) (data : Data) :
    mergeBytes mask (mergeBytes mask data 0) 0 = mergeBytes mask data 0 := by
  refine BitVec.eq_of_getLsbD_eq fun i hi => ?_
  simp only [getLsbD_mergeBytes _ _ _ hi]
  split <;> rfl

/-- A merge leaves zero outside the two masks together (R127; log 15). -/
theorem mergeBytes_or_zero {mask old : Byte} {data d : Data} (h : mergeBytes old d 0 = d) :
    mergeBytes (old ||| mask) (mergeBytes mask data d) 0 = mergeBytes mask data d := by
  refine BitVec.eq_of_getLsbD_eq fun i hi => ?_
  have hd := getLsbD_mergeBytes old d 0 hi
  rw [h] at hd
  simp only [getLsbD_mergeBytes _ _ _ hi, BitVec.getLsbD_or]
  cases hm : mask.getLsbD (i / 8) with
  | true => simp
  | false => cases ho : old.getLsbD (i / 8) <;> simp_all

end Sys2Proof.Machine
end

section
/-! SUPPORT. What the operations on the Write Queue and the Outstanding Read List keep (R124 to R128, R136, R137, R143,
R147). -/

namespace Sys2Proof.Machine

set_option Elab.async false

/-! ## The Write Queue -/

/-- What QueueOk says of each entry of the queue. -/
abbrev WriteEntryOk (n : ArrayCount) (nextPlace : Nat) (e : WriteEntry) : Prop :=
  inRange n e.addr = true ∧ e.array = (homeOf n e.addr).array ∧ e.mask ≠ 0 ∧ mergeBytes e.mask e.data 0 = e.data ∧
    e.mark < nextPlace

theorem WriteEntryOk.mono {n : ArrayCount} {p q : Nat} {e : WriteEntry} (h : WriteEntryOk n p e) (hpq : p ≤ q) :
    WriteEntryOk n q e := by
  obtain ⟨hrange, hhome, hmask, hzero, hmark⟩ := h
  exact ⟨hrange, hhome, hmask, hzero, by omega⟩

/-- A write merged into an entry, at the next place of the take order (R127). -/
theorem merge_writeEntryOk {n : ArrayCount} {p : Nat} {e : WriteEntry} (h : WriteEntryOk n p e) (mask : Byte)
    (data : Data) (poisoned : Bool) : WriteEntryOk n (p + 1) (e.merge mask data poisoned p) := by
  obtain ⟨hrange, hhome, hmask, hzero, -⟩ := h
  refine ⟨hrange, hhome, fun h => hmask ?_, mergeBytes_or_zero hzero, Nat.lt_succ_self p⟩
  exact (BitVec.or_eq_zero_iff.mp h).1

/-- The entry a write creates, at the next place of the take order (R128). -/
theorem create_writeEntryOk {n : ArrayCount} {w : BitVec 28} {mask : Byte} (hw : inRange n w = true) (hm : mask ≠ 0)
    (data : Data) (poisoned : Bool) (p : Nat) : WriteEntryOk n (p + 1) (.create n w mask data poisoned p) :=
  ⟨hw, rfl, hm, mergeBytes_mergeBytes_zero mask data, Nat.lt_succ_self p⟩

/-- A write is taken by a merge into the entry of its address, or by an entry of its own (R126 to R128). -/
theorem queueTake_cases {n : ArrayCount} {q q' : List WriteEntry} {w : BitVec 28} {mask : Byte} {data : Data}
    {poisoned : Bool} {p : Nat} (h : queueTake n q w mask data poisoned p = some q') :
    q' = q.map (fun x => if x.addr = w then x.merge mask data poisoned p else x) ∨
    ((∀ e ∈ q, e.addr ≠ w) ∧ q.length < 16 ∧ q' = q ++ [.create n w mask data poisoned p]) := by
  unfold queueTake at h
  cases hf : queueFind q w with
  | some e =>
    simp only [hf] at h
    split at h
    · cases h
    · exact .inl (Option.some.inj h).symm
  | none =>
    simp only [hf] at h
    split at h
    · refine .inr ⟨fun e he => ?_, ‹_›, (Option.some.inj h).symm⟩
      simpa using List.find?_eq_none.mp hf e he
    · cases h

/-- A write taken keeps the queue in order. -/
theorem queueTake_queueOk {s : State} (h : QueueOk s) {q : List WriteEntry} {w : BitVec 28} {mask : Byte} {data : Data}
    {poisoned : Bool} (hq : queueTake s.params.arrays s.queue w mask data poisoned s.port.nextPlace = some q)
    (hw : inRange s.params.arrays w = true) (hm : mask ≠ 0) : QueueOk (takePlace { s with queue := q }) := by
  obtain ⟨hlen, hnodup, hentry⟩ := h
  rcases queueTake_cases hq with rfl | ⟨hnew, hroom, rfl⟩
  · refine ⟨by rw [takePlace_queue, List.length_map]; exact hlen, ?_, fun e he => ?_⟩
    · rw [takePlace_queue, List.map_map]
      have hsame : WriteEntry.addr ∘ (fun x : WriteEntry =>
          if x.addr = w then x.merge mask data poisoned s.port.nextPlace else x) = WriteEntry.addr := by
        funext x
        simp only [Function.comp_apply]
        split <;> rfl
      rwa [hsame]
    · obtain ⟨x, hx, rfl⟩ := List.mem_map.mp he
      split
      · exact merge_writeEntryOk (hentry x hx) mask data poisoned
      · exact WriteEntryOk.mono (hentry x hx) (Nat.le_succ _)
  · refine ⟨?_, ?_, fun e he => ?_⟩
    · rw [takePlace_queue, List.length_append]
      exact hroom
    · rw [takePlace_queue, List.map_append, List.nodup_append]
      refine ⟨hnodup, List.nodup_singleton _, fun a ha b hb => ?_⟩
      obtain ⟨x, hx, rfl⟩ := List.mem_map.mp ha
      rw [List.mem_singleton.mp hb]
      exact hnew x hx
    · rcases List.mem_append.mp he with he | he
      · exact WriteEntryOk.mono (hentry e he) (Nat.le_succ _)
      · rw [List.mem_singleton.mp he]
        exact create_writeEntryOk hw hm data poisoned _

/-- A later place of the take order leaves the queue in order (R143). -/
theorem queueOk_mono {s t : State} (h : QueueOk s) (hq : t.queue = s.queue) (ha : t.params.arrays = s.params.arrays)
    (hp : s.port.nextPlace ≤ t.port.nextPlace) : QueueOk t := by
  obtain ⟨hlen, hnodup, hentry⟩ := h
  refine ⟨hq ▸ hlen, hq ▸ hnodup, fun e he => ?_⟩
  rw [ha]
  exact WriteEntryOk.mono (hentry e (hq ▸ he)) hp

/-- An entry marked in drain is otherwise as it was (R136). -/
theorem queueStartDrain_queueOk {s : State} (h : QueueOk s) (w : BitVec 28) :
    QueueOk { s with queue := queueStartDrain s.queue w } := by
  obtain ⟨hlen, hnodup, hentry⟩ := h
  refine ⟨by rw [queueStartDrain, List.length_map]; exact hlen, ?_, fun e he => ?_⟩
  · have hsame : WriteEntry.addr ∘ (fun x : WriteEntry => if x.addr = w then { x with inDrain := true } else x) =
        WriteEntry.addr := by
      funext x
      simp only [Function.comp_apply]
      split <;> rfl
    rwa [queueStartDrain, List.map_map, hsame]
  · obtain ⟨x, hx, rfl⟩ := List.mem_map.mp he
    split
    · exact hentry x hx
    · exact hentry x hx

/-- An entry removed leaves the others (R137). -/
theorem queueRemove_queueOk {s : State} (h : QueueOk s) (w : BitVec 28) :
    QueueOk { s with queue := queueRemove s.queue w } := by
  obtain ⟨hlen, hnodup, hentry⟩ := h
  exact ⟨(List.length_filter_le ..).trans hlen, hnodup.sublist ((List.filter_sublist).map _),
    fun e he => hentry e (List.mem_filter.mp he).1⟩

/-! ## The Outstanding Read List -/

/-- A read joins at the newest end, with the next place of the take order (R147). -/
theorem joinList_readsOk {s : State} (h : ReadsOk s) {tag : BitVec 4} {w : BitVec 28} (hroom : s.port.reads.length < 8)
    (htag : ∀ r ∈ s.port.reads, r.tag ≠ tag) (hw : inRange s.params.arrays w = true) (snap : Option Snapshot) :
    ReadsOk (joinList tag w snap s) := by
  obtain ⟨hlen, hnodup, hplaces, hread⟩ := h
  simp only [ReadsOk, joinList]
  refine ⟨?_, ?_, ?_, fun r hr => ?_⟩
  · rw [List.length_append]
    exact hroom
  · rw [List.map_append, List.nodup_append]
    refine ⟨hnodup, List.nodup_singleton _, fun a ha b hb => ?_⟩
    obtain ⟨x, hx, rfl⟩ := List.mem_map.mp ha
    rw [List.mem_singleton.mp hb]
    exact htag x hx
  · rw [List.pairwise_append]
    refine ⟨hplaces, List.pairwise_singleton .., fun x hx y hy => ?_⟩
    rw [List.mem_singleton.mp hy]
    exact (hread x hx).2.2
  · rcases List.mem_append.mp hr with hr | hr
    · obtain ⟨hrange, hhome, hplace⟩ := hread r hr
      exact ⟨hrange, hhome, Nat.lt_succ_of_lt hplace⟩
    · rw [List.mem_singleton.mp hr]
      exact ⟨hw, rfl, Nat.lt_succ_self _⟩

/-- Reads that leave the list leave the others in order, and a later place of the take order does too (R143, R151, R154). -/
theorem readsOk_of_sublist {s t : State} (h : ReadsOk s) (hr : t.port.reads.Sublist s.port.reads)
    (ha : t.params.arrays = s.params.arrays) (hp : s.port.nextPlace ≤ t.port.nextPlace) : ReadsOk t := by
  obtain ⟨hlen, hnodup, hplaces, hread⟩ := h
  refine ⟨hr.length_le.trans hlen, hnodup.sublist (hr.map _), hplaces.sublist hr, fun r hm => ?_⟩
  obtain ⟨hrange, hhome, hplace⟩ := hread r (hr.mem hm)
  rw [ha]
  exact ⟨hrange, hhome, by omega⟩

/-- A read marked IN-TURN is otherwise as it was (R147). -/
theorem markInTurn_readsOk {s : State} (h : ReadsOk s) (place : Nat) : ReadsOk (markInTurn place s) := by
  obtain ⟨hlen, hnodup, hplaces, hread⟩ := h
  have hkeep (r : OutRead) : (if r.place = place then { r with inTurn := true } else r).tag = r.tag ∧
      (if r.place = place then { r with inTurn := true } else r).place = r.place := by
    split <;> exact ⟨rfl, rfl⟩
  simp only [ReadsOk, markInTurn]
  refine ⟨?_, ?_, ?_, fun r hr => ?_⟩
  · rw [List.length_map]
    exact hlen
  · have hsame : OutRead.tag ∘ (fun r : OutRead => if r.place = place then { r with inTurn := true } else r) =
        OutRead.tag := funext fun r => (hkeep r).1
    rwa [List.map_map, hsame]
  · rw [List.pairwise_map]
    exact hplaces.imp fun {x y} hxy => by rw [(hkeep x).2, (hkeep y).2]; exact hxy
  · obtain ⟨x, hx, rfl⟩ := List.mem_map.mp hr
    split
    · exact hread x hx
    · exact hread x hx

end Sys2Proof.Machine
end

section
/-! SUPPORT. What it is for a step, or a part of one, to keep the invariants of the blocks other than the path state: a
relation between states that holds of every operation and composes. -/

namespace Sys2Proof.Machine

set_option Elab.async false

/-! ## The relation -/

/-- A change of state that keeps each block's invariant, each for itself. A change that leaves alone what an invariant
speaks of keeps it. -/
structure KeepsData (s t : State) : Prop where
  params : ParamsOk s.params → ParamsOk t.params := by exact id
  mem : Memory.wf s.mem → Memory.wf t.mem := by exact id
  map : MapOk s.map → MapOk t.map := by exact id
  subs : SubsOk s → SubsOk t := by exact id
  steer : SteerOk s → SteerOk t := by exact id
  scrub : ScrubOk s → ScrubOk t := by exact id
  queue : QueueOk s → QueueOk t := by exact id
  reads : ReadsOk s → ReadsOk t := by exact id
  receiver : ReceiverOk s → ReceiverOk t := by exact id

theorem KeepsData.refl (s : State) : KeepsData s s := {}

theorem KeepsData.trans {s t u : State} (h : KeepsData s t) (g : KeepsData t u) : KeepsData s u where
  params x := g.params (h.params x)
  mem x := g.mem (h.mem x)
  map x := g.map (h.map x)
  subs x := g.subs (h.subs x)
  steer x := g.steer (h.steer x)
  scrub x := g.scrub (h.scrub x)
  queue x := g.queue (h.queue x)
  reads x := g.reads (h.reads x)
  receiver x := g.receiver (h.receiver x)

/-! ## Each invariant by what it speaks of -/

theorem subsOk_congr {s t : State} (h : t.subs = s.subs) (hs : SubsOk s) : SubsOk t :=
  subsOk_of_spares hs (congrArg RowEngine.table h) fun a p => by rw [State.spare, h, State.spare]

/-- A steering record whose cursor, while it is MIGRATING, is on a word of the array (R102, R103). -/
def SteerRecordOk (r : SteerRecord) : Prop := ∀ k c o, r = .migrating k c o → c < wordsPerArray

theorem steerOk_iff (s : State) : SteerOk s ↔ ∀ a, SteerRecordOk (s.steerOf a) := by
  refine forall_congr' fun a => ?_
  cases h : s.steerOf a <;> simp [SteerRecordOk]

theorem steerOk_congr {s t : State} (h : t.steer = s.steer) (hs : SteerOk s) : SteerOk t := by
  rw [steerOk_iff] at hs ⊢
  intro a
  rw [State.steerOf, h]
  exact hs a

theorem scrubOk_congr {s t : State} (hp : t.params = s.params) (hc : t.scrub.cursor = s.scrub.cursor) (hs : ScrubOk s) :
    ScrubOk t := by
  simpa only [ScrubOk, installed, hp, hc] using hs

theorem queueOk_congr {s t : State} (hq : t.queue = s.queue) (hp : t.params = s.params)
    (hn : t.port.nextPlace = s.port.nextPlace) (hs : QueueOk s) : QueueOk t :=
  queueOk_mono hs hq (congrArg Params.arrays hp) hn.ge

theorem readsOk_congr {s t : State} (hr : t.port.reads = s.port.reads) (hp : t.params = s.params)
    (hn : t.port.nextPlace = s.port.nextPlace) (hs : ReadsOk s) : ReadsOk t :=
  readsOk_of_sublist hs (hr ▸ List.Sublist.refl _) (congrArg Params.arrays hp) hn.ge

/-- The receiver's invariant outlives a change of path state that does not enter HOLD (R188). -/
theorem receiverOk_congr {s t : State} (hr : t.link.receiver = s.link.receiver)
    (hh : t.path.path = .hold → s.path.path = .hold) (hs : ReceiverOk s) : ReceiverOk t := by
  rw [ReceiverOk, hr]
  exact ⟨fun h => hs.1 (hh h), hs.2⟩

/-! ## Changes beside the data -/

/-- Two states with the same data, which the invariants beside the path state speak of; HOLD is not entered. -/
structure SameData (s t : State) : Prop where
  params : t.params = s.params := by rfl
  mem : t.mem = s.mem := by rfl
  map : t.map = s.map := by rfl
  subs : t.subs = s.subs := by rfl
  steer : t.steer = s.steer := by rfl
  cursor : t.scrub.cursor = s.scrub.cursor := by rfl
  queue : t.queue = s.queue := by rfl
  reads : t.port.reads = s.port.reads := by rfl
  nextPlace : t.port.nextPlace = s.port.nextPlace := by rfl
  receiver : t.link.receiver = s.link.receiver := by rfl
  hold : t.path.path = .hold → s.path.path = .hold := by exact id

theorem SameData.keeps {s t : State} (h : SameData s t) : KeepsData s t where
  params := by rw [h.params]; exact id
  mem := by rw [h.mem]; exact id
  map := by rw [h.map]; exact id
  subs := subsOk_congr h.subs
  steer := steerOk_congr h.steer
  scrub := scrubOk_congr h.params h.cursor
  queue := queueOk_congr h.queue h.params h.nextPlace
  reads := readsOk_congr h.reads h.params h.nextPlace
  receiver := receiverOk_congr h.receiver h.hold

theorem SameData.refl (s : State) : SameData s s := {}

theorem SameData.trans {s t u : State} (h : SameData s t) (g : SameData t u) : SameData s u where
  params := g.params.trans h.params
  mem := g.mem.trans h.mem
  map := g.map.trans h.map
  subs := g.subs.trans h.subs
  steer := g.steer.trans h.steer
  cursor := g.cursor.trans h.cursor
  queue := g.queue.trans h.queue
  reads := g.reads.trans h.reads
  nextPlace := g.nextPlace.trans h.nextPlace
  receiver := g.receiver.trans h.receiver
  hold x := h.hold (g.hold x)

theorem changeAlert_sameData (u : AlertUnit) (s : State) : SameData s (changeAlert u s) := by
  rcases changeAlert_cases u s with h | ⟨-, -, -, h⟩
  · rw [h]
    exact {}
  · rw [h]
    exact { hold := nofun }

theorem raise_sameData (f : AlertFlag) (s : State) : SameData s (raise f s) := changeAlert_sameData ..

theorem moveTo_sameData {p : PathState} (hp : p ≠ .hold) (s : State) : SameData s (moveTo p s) :=
  { hold := fun h => absurd h hp }

theorem beginWake_sameData (s : State) : SameData s (beginWake s) := { hold := nofun }

theorem mapTurn_sameData (a : ArrayNo) (f : TurnWork → TurnWork) (s : State) : SameData s (mapTurn a f s) := by
  rw [mapTurn_frame]
  exact {}

theorem answerQuiesce_sameData (st : LinkStatus) (s : State) : SameData s (answerQuiesce st s) := by
  unfold answerQuiesce
  split
  · exact {}
  · exact {}

theorem withdrawPeek_sameData (s : State) : SameData s (withdrawPeek s) := by
  unfold withdrawPeek
  split
  · exact {}
  · exact {}

theorem answerPeek_sameData (result : List Byte) (s : State) : SameData s (answerPeek result s) := by
  unfold answerPeek
  split
  · exact {}
  · exact {}

theorem abandonQuiet_sameData (s : State) : SameData s (abandonQuiet s) :=
  SameData.trans (t := setQuietOutcome .abandoned (moveTo .opened s)) { hold := nofun } (answerQuiesce_sameData ..)

theorem answerClosed_sameData (r : Request) (s : State) : SameData s (answerClosed r s) := by
  rw [answerClosed_eq]
  exact {}

theorem fillNotice_sameData (s : State) : SameData s (fillNotice s) := by
  unfold fillNotice
  split
  case h_1 => exact moveTo_sameData (by decide) s
  all_goals exact {}

/-! ## The arrays (R17, R35) -/

theorem setWord_keeps (a : ArrayNo) (i : PhysIndex) (w : Stored) (s : State) : KeepsData s (s.setWord a i w) :=
  { mem := setWord_wf a i w s }

theorem disturb_keeps (a : ArrayNo) (i : PhysIndex) (flips : Stored) (s : State) : KeepsData s (disturb a i flips s) := by
  unfold disturb
  split
  · exact .refl s
  · exact setWord_keeps ..

theorem setWords_keeps (a : ArrayNo) (w : Stored) (is : List PhysIndex) (s : State) :
    KeepsData s (setWords a w is s) := by
  induction is generalizing s with
  | nil => exact .refl s
  | cons i is ih => exact (setWord_keeps ..).trans (ih _)

theorem repairWrite_keeps (a : ArrayNo) (i : PhysIndex) (r : SteerRecord) (d : Decoded) (s : State) :
    KeepsData s (repairWrite a i r d s) := by
  unfold repairWrite
  split
  · exact setWord_keeps ..
  all_goals exact .refl s

/-! ## The Fault Map (R53 to R71) -/

theorem withMap_keeps (s : State) {m : FaultMap} (h : MapOk s.map → MapOk m) : KeepsData s { s with map := m } :=
  { map := h }

theorem purgeRow_keeps (a : ArrayNo) (row : Nat) (s : State) : KeepsData s (purgeRow a row s) :=
  withMap_keeps s fun h => removeWhere_mapOk h _

theorem purgeLane_keeps (a : ArrayNo) (k : CodedLane) (s : State) : KeepsData s (purgeLane a k s) :=
  withMap_keeps s fun h => removeWhere_mapOk h _

end Sys2Proof.Machine
end

section
/-! SUPPORT. The repair blocks keep the invariants: condemnations, occurrences, and the results of COPY and MIGRATE turns
(chapters 4 to 6). -/

namespace Sys2Proof.Machine

set_option Elab.async false

/-! ## The Row Substitution Engine (R76 to R85) -/

/-- A condemnation changes nothing beyond the tables, the turns and the alerts, so it keeps what it keeps of the tables. -/
theorem SameBeyondRepair.keeps {a : ArrayNo} {s t : State} (h : SameBeyondRepair s t) (r : ReachesAt a s t)
    (hmap : MapOk s.map → MapOk t.map) (hsubs : SubsOk s → SubsOk t) (hsteer : SteerOk s → SteerOk t) :
    KeepsData s t where
  params := by rw [h.params]; exact id
  mem := by rw [h.mem]; exact id
  map := hmap
  subs := hsubs
  steer := hsteer
  scrub := scrubOk_congr h.params (congrArg Scrubber.cursor h.scrub)
  queue := queueOk_congr h.queue h.params (congrArg HostPort.nextPlace h.port)
  reads := readsOk_congr (congrArg HostPort.reads h.port) h.params (congrArg HostPort.nextPlace h.port)
  receiver := receiverOk_congr (congrArg Link.receiver h.link) (by
    rcases r.path with hp | ⟨-, hp⟩
    · rw [hp]; exact id
    · rw [hp]; nofun)

theorem condemnHostRow_subsOk {s : State} (hs : SubsOk s) (auto : Bool) (a : ArrayNo) {row : Nat} (hrow : row < hostRows) :
    SubsOk (condemnHostRow auto a row s).1 := by
  unfold condemnHostRow
  split
  · exact hs
  · split
    · exact hs
    · split
      · rename_i hfor _ _ _ i t hi ht
        exact newEntry_subsOk hs (e := ⟨a, row, .copying .hostRow 0, t, if auto then .auto else .host⟩) (freeEntry_some hi)
          (freeSpare_some ht) hrow hfor (.inr rfl)
      · exact subsOk_congr (raise_subs ..) hs

theorem retargetEngine_subsOk {s : State} (hs : SubsOk s) (auto : Bool) {i : Fin 32} {e : SubEntry}
    (hi : s.subs.table.get i = some e) (hphase : e.phase = .active) : SubsOk (retarget auto e.array i e s).1 := by
  unfold retarget
  split
  · exact hs
  · split
    · exact retarget_subsOk hs hi hphase (freeSpare_some ‹_›) _
    · exact subsOk_congr (raise_subs ..) hs

@[simp] theorem voidCopy_subs (a : ArrayNo) (i : Fin 32) (s : State) : (voidCopy a i s).subs = s.subs := by
  rw [voidCopy, mapTurn_frame]

@[simp] theorem spare_voidCopy (a b : ArrayNo) (i : Fin 32) (t : SpareNo) (s : State) :
    (voidCopy a i s).spare b t = s.spare b t := by
  rw [State.spare, voidCopy_subs, State.spare]

theorem replaceTarget_subsOk {s : State} (hs : SubsOk s) {i : Fin 32} {e : SubEntry}
    (hi : s.subs.table.get i = some e) {src : CopySource} {c : Nat} (hphase : e.phase = .copying src c) :
    SubsOk (replaceTarget e.array i e src s).1 := by
  have hvoid (a : ArrayNo) (p : SpareNo) : (voidCopy e.array i (setSpare e.array e.target .retired s)).spare a p =
      if a = e.array ∧ p = e.target then .retired else s.spare a p := by
    rw [spare_voidCopy, spare_setSpare]
  unfold replaceTarget
  dsimp only
  split
  · rename_i t ht
    have hfree := freeSpare_some ht
    have hne : ¬(e.array = e.array ∧ t = e.target) := by
      rintro ⟨-, rfl⟩
      simp [hvoid] at hfree
    rw [hvoid, if_neg hne] at hfree
    refine restart_subsOk hs hi hphase hfree (by simp) fun a p => ?_
    rw [spare_setSpare, hvoid]
  · refine subsOk_congr (raise_subs ..) ?_
    exact givenUp_subsOk hs hi hphase (st := .retired) nofun (by simp) hvoid

theorem condemnSpare_subsOk {s : State} (hs : SubsOk s) (auto : Bool) (a : ArrayNo) (t : SpareNo) :
    SubsOk (condemnSpare auto a t s).1 := by
  unfold condemnSpare
  split
  · exact hs
  · rename_i i e hw
    obtain ⟨hi, hp⟩ := entryWhere_some hw
    obtain ⟨rfl, -⟩ := of_decide_eq_true hp
    split
    · exact retargetEngine_subsOk hs auto hi ‹_›
    · exact replaceTarget_subsOk hs hi ‹_›

theorem condemnRowEngine_subsOk {s : State} (hs : SubsOk s) (auto : Bool) (a : ArrayNo) (row : Nat) :
    SubsOk (condemnRowEngine auto a row s).1 := by
  unfold condemnRowEngine
  split
  · exact condemnHostRow_subsOk hs auto a ‹_›
  · split
    · exact condemnSpare_subsOk hs auto a _
    · exact hs

theorem condemnRowEngine_keeps (auto : Bool) (a : ArrayNo) (row : Nat) (s : State) :
    KeepsData s (condemnRowEngine auto a row s).1 :=
  (condemnRowEngine_same auto a row s).keeps (condemnRowEngine_reachesAt auto a row s)
    (by rw [condemnRowEngine_map]; exact id) (fun h => condemnRowEngine_subsOk h auto a row)
    (steerOk_congr (condemnRowEngine_steer ..))

/-! ## The Lane Steering Unit (R96 to R103) -/

theorem setSteer_keeps (a : ArrayNo) {r : SteerRecord} (hr : SteerRecordOk r) (s : State) :
    KeepsData s (setSteer a r s) := by
  refine { steer := fun hs => ?_ }
  rw [steerOk_iff] at hs ⊢
  intro b
  rw [steerOf_setSteer]
  split
  · exact hr
  · exact hs b

theorem steerRecordOk_normal : SteerRecordOk .normal := nofun

theorem steerRecordOk_steered (k : CodedLane) (o : RepairOrigin) : SteerRecordOk (.steered k o) := nofun

theorem steerRecordOk_migrating (k : CodedLane) {c : Nat} (o : RepairOrigin) (hc : c < wordsPerArray) :
    SteerRecordOk (.migrating k c o) := by
  intro k' c' o' h
  cases h
  exact hc

theorem cancelMigration_keeps (a : ArrayNo) (s : State) : KeepsData s (cancelMigration a s) :=
  (setSteer_keeps a steerRecordOk_normal s).trans (mapTurn_sameData ..).keeps

theorem condemnCodedLane_keeps (auto : Bool) (a : ArrayNo) (k : CodedLane) (s : State) :
    KeepsData s (condemnCodedLane auto a k s).1 := by
  unfold condemnCodedLane
  split
  · split
    · exact .refl s
    · exact setSteer_keeps a (steerRecordOk_migrating k _ (by decide)) s
  · split
    · exact .refl s
    · split
      · exact .refl s
      · exact (raise_sameData ..).keeps

theorem condemnLaneEngine_keeps (auto : Bool) (a : ArrayNo) (l : PhysLane) (s : State) :
    KeepsData s (condemnLaneEngine auto a l s).1 := by
  unfold condemnLaneEngine
  split
  · exact condemnCodedLane_keeps ..
  · unfold condemnSpareLane
    split
    · exact .refl s
    · exact (cancelMigration_keeps a s).trans (raise_sameData ..).keeps
    · exact (raise_sameData ..).keeps

theorem migrateResult_keeps (a : ArrayNo) (index : PhysIndex) (void : Bool) (s : State) :
    KeepsData s (migrateResult a index void s) := by
  unfold migrateResult
  split
  · exact .refl s
  · split
    · exact .refl s
    · exact .refl s
    · rename_i k _ o _
      split
      · exact ((setSteer_keeps a (steerRecordOk_steered k o) s).trans (purgeLane_keeps a k _)).trans
          (raise_sameData ..).keeps
      · exact setSteer_keeps a (steerRecordOk_migrating k o (by omega)) s

/-! ## Occurrences (R52 to R63) -/

theorem condemnRow_keeps (a : ArrayNo) (row : Nat) (s : State) : KeepsData s (condemnRow a row s) :=
  ((withMap_keeps s fun h => condemnWhere_mapOk h _).trans (condemnRowEngine_keeps true a row _)).trans
    (raise_sameData ..).keeps

theorem condemnLane_keeps (a : ArrayNo) (l : PhysLane) (s : State) : KeepsData s (condemnLane a l s) :=
  ((withMap_keeps s fun h => condemnWhere_mapOk h _).trans (condemnLaneEngine_keeps true a l _)).trans
    (raise_sameData ..).keeps

theorem laneTriggers_keeps (o : Occurrence) (l : PhysLane) (s : State) : KeepsData s (laneTriggers o l s) := by
  unfold laneTriggers
  dsimp only
  split <;> split
  · exact (condemnRow_keeps ..).trans (condemnLane_keeps ..)
  · exact condemnLane_keeps ..
  · exact condemnRow_keeps ..
  · exact .refl s

theorem triggers_keeps (o : Occurrence) (b : Bool) (s : State) : KeepsData s (triggers o b s) := by
  unfold triggers
  split
  · exact condemnRow_keeps ..
  · exact .refl s
  · split
    · exact laneTriggers_keeps ..
    · exact .refl s

/-- An occurrence on a physical word keeps the invariants (R52, R53 to R63). -/
theorem deliver_keeps {o : Occurrence} (hrow : o.row < physRows) (hcol : o.column < columns) (s : State) :
    KeepsData s (deliver o s) := by
  unfold deliver
  dsimp only
  split
  · rename_i m b hm
    refine KeepsData.trans ?_ (triggers_keeps ..)
    refine (raise_sameData o.error.flag s).keeps.trans (withMap_keeps _ fun h => ?_)
    obtain ⟨i, e, r⟩ := recordKey_recorded h hm
    exact r.mapOk h hrow hcol
  · refine KeepsData.trans ?_ (triggers_keeps ..)
    exact ((raise_sameData ..).trans (raise_sameData ..)).keeps

theorem rowOf_lt (i : PhysIndex) : rowOf i < physRows := by
  have := i.isLt
  simp only [rowOf, physRows, columns, wordsPerArray] at *
  omega

theorem columnOf_lt (i : PhysIndex) : columnOf i < columns := Nat.mod_lt _ (by decide)

/-- What a turn reports of a word keeps the invariants: every word has a row and a column (R17, R43). -/
theorem report_keeps (a : ArrayNo) (i : PhysIndex) (g : Origin) (d : Decoded) (s : State) :
    KeepsData s (report a i g d s) := by
  unfold report
  split
  · exact .refl s
  · exact deliver_keeps (rowOf_lt i) (columnOf_lt i) s

/-! ## The result of a COPY turn (R84, R85) -/

theorem retireSource_setEntry (i : Fin 32) (x : Option SubEntry) (a : ArrayNo) (src : CopySource) (s : State) :
    retireSource a src (setEntry i x s) = setEntry i x (retireSource a src s) := by
  cases src <;> rfl

theorem completeCopy_keeps {s : State} {i : Fin 32} {e : SubEntry} (hi : s.subs.table.get i = some e)
    {src : CopySource} {c : Nat} (hphase : e.phase = .copying src c) : KeepsData s (completeCopy i e src s) := by
  have hretire : KeepsData s (setEntry i (some { e with phase := .active }) (retireSource e.array src s)) := by
    have hsubs (hs : SubsOk s) := completeCopy_subsOk hs hi hphase
    cases src <;> exact { subs := hsubs }
  unfold completeCopy
  rw [retireSource_setEntry]
  exact (hretire.trans (purgeRow_keeps ..)).trans (raise_sameData ..).keeps

theorem copyResult_keeps (h : CopyHand) (s : State) : KeepsData s (copyResult h s) := by
  unfold copyResult
  split
  · exact .refl s
  · split
    · exact .refl s
    · split
      · exact .refl s
      · split
        · exact completeCopy_keeps ‹_› ‹_›
        · have hcol : h.column.val + 1 < columns := by omega
          exact { subs := fun hs => moveCopy_subsOk hs ‹_› ‹_› hcol }

end Sys2Proof.Machine
end

section
/-! SUPPORT. The Scrubber, the host memory port and the resets keep the invariants of the blocks (chapters 7 to 10). -/

namespace Sys2Proof.Machine

set_option Elab.async false

/-! ## The Scrubber (R112 to R122) -/

theorem nextInstalled_installed {s : State} {a b : ArrayNo} (h : nextInstalled s a = some b) : installed s b = true := by
  unfold nextInstalled at h
  split at h
  · split at h
    · cases h
      assumption
    · cases h
  · cases h

/-- The walk comes to rest on a row of an installed array, when it starts on one (R112). -/
theorem seekRow_ok {s : State} {n : Nat} {a b : ArrayNo} {row r : Nat} (h : seekRow s n a row = some (b, r))
    (ha : installed s a = true) : installed s b = true ∧ r < physRows := by
  induction n generalizing a row with
  | zero => cases h
  | succ n ih =>
    unfold seekRow at h
    split at h
    · split at h
      · cases h
        exact ⟨ha, ‹_›⟩
      · exact ih h ha
    · split at h
      · exact ih h (nextInstalled_installed ‹_›)
      · cases h

theorem zero_lt_physRows : 0 < physRows := by decide

theorem zero_lt_columns : 0 < columns := by decide

theorem installed_zero (s : State) : installed s 0 = true := decide_eq_true s.params.arrays.count_pos

/-- The first position of the walk is on an installed array, whatever is visited (R112, R118). -/
theorem firstPosition_ok (s : State) : installed s (firstPosition s).array = true ∧ (firstPosition s).row < physRows ∧
    (firstPosition s).column < columns := by
  unfold firstPosition
  split
  · obtain ⟨hb, hr⟩ := seekRow_ok ‹_› (installed_zero s)
    exact ⟨hb, hr, zero_lt_columns⟩
  · exact ⟨installed_zero s, zero_lt_physRows, zero_lt_columns⟩

theorem setCursor_keeps {p : ScrubPos} {s : State} (h : ScrubOk s → ScrubOk (setCursor p s)) :
    KeepsData s (setCursor p s) := { scrub := h }

theorem returnCursor_keeps (s : State) : KeepsData s (setCursor (firstPosition s) s) :=
  setCursor_keeps fun _ => firstPosition_ok s

theorem completePass_keeps (s : State) : KeepsData s (completePass s) := by
  have haged : KeepsData s { s with
      map := s.map.aged s.scrub.pass
      scrub := { s.scrub with pass := s.scrub.pass + 1 } } := { map := fun h => aged_mapOk h _ }
  unfold completePass
  exact (haged.trans (raise_sameData ..).keeps).trans (returnCursor_keeps _)

theorem advanceCursor_keeps (s : State) : KeepsData s (advanceCursor s) := by
  unfold advanceCursor
  split
  · exact setCursor_keeps fun h => ⟨h.1, h.2.1, ‹_›⟩
  · split
    · refine setCursor_keeps fun h => ?_
      obtain ⟨hb, hr⟩ := seekRow_ok ‹_› h.1
      exact ⟨hb, hr, zero_lt_columns⟩
    · exact completePass_keeps s

theorem scrubResult_keeps (leftSet : Bool) (s : State) : KeepsData s (scrubResult leftSet s) := by
  unfold scrubResult
  split
  · exact .refl s
  · exact advanceCursor_keeps s

theorem fillResult_sameData (a : ArrayNo) (i : PhysIndex) (void : Bool) (s : State) :
    SameData s (fillResult a i void s) := by
  unfold fillResult
  split
  · exact {}
  · split
    · exact {}
    · refine SameData.trans ?_ (fillNotice_sameData ..)
      exact SameData.trans {} (raise_sameData ..)

/-! ## The host memory port (R142 to R151) -/

theorem takePlace_keeps (s : State) : KeepsData s (takePlace s) where
  queue h := queueOk_mono h rfl rfl (Nat.le_succ _)
  reads h := readsOk_of_sublist h (List.Sublist.refl _) rfl (Nat.le_succ _)

theorem answerRead_sameData (tag : BitVec 4) (data : Data) (st : ReadStatus) (s : State) :
    SameData s (answerRead tag data st s) := {}

theorem joinList_keeps {s : State} {tag : BitVec 4} {w : BitVec 28} (hroom : s.port.reads.length < 8)
    (htag : ∀ r ∈ s.port.reads, r.tag ≠ tag) (hw : inRange s.params.arrays w = true) (snap : Option Snapshot) :
    KeepsData s (joinList tag w snap s) where
  queue h := queueOk_mono h rfl rfl (Nat.le_succ _)
  reads h := joinList_readsOk h hroom htag hw snap

theorem weighRead_keeps (tag : BitVec 4) (w : BitVec 28) (s : State) : KeepsData s (weighRead tag w s) := by
  unfold weighRead
  split
  · exact SameData.keeps {}
  · rename_i hroom
    split
    · exact (answerRead_sameData ..).keeps
    · rename_i htag
      split
      · exact (answerRead_sameData ..).keeps
      · rename_i hw
        have hjoin (snap : Option Snapshot) : KeepsData s (joinList tag w snap s) :=
          joinList_keeps (Nat.lt_of_not_le hroom) (by simpa using htag) (by simpa using hw) snap
        unfold takeRead
        split
        · exact hjoin none
        · split
          · exact (takePlace_keeps s).trans (answerRead_sameData ..).keeps
          · exact hjoin _

theorem weighWrite_keeps (w : BitVec 28) (mask : Byte) (data : Data) (parity : Byte) (s : State) :
    KeepsData s (weighWrite w mask data parity s) := by
  unfold weighWrite
  split
  · exact SameData.keeps {}
  · rename_i hw
    split
    · exact SameData.keeps {}
    · rename_i hm
      split
      · rename_i q hq
        have htake : KeepsData s (takePlace { s with queue := q }) :=
          { queue := fun h => queueTake_queueOk h hq (by simpa using hw) hm
            reads := fun h => readsOk_of_sublist h (List.Sublist.refl _) rfl (Nat.le_succ _) }
        unfold takeWrite
        dsimp only
        split
        · exact htake.trans (SameData.trans {} (raise_sameData .poisonIn _)).keeps
        · exact htake.trans (SameData.keeps {})
      · exact SameData.keeps {}

theorem weighOpen_keeps (r : Request) (s : State) : KeepsData s (weighOpen r s) := by
  cases r with
  | read tag w => exact weighRead_keeps tag w s
  | write w mask data parity => exact weighWrite_keeps w mask data parity s

theorem weigh_keeps (r : Request) (s : State) : KeepsData s (weigh r s) := by
  unfold weigh
  split
  · exact .refl s
  · split
    · exact .refl s
    · exact (answerClosed_sameData r s).keeps
    · exact (answerClosed_sameData r s).keeps
    · exact (answerClosed_sameData r s).keeps
    · exact (answerClosed_sameData r s).keeps
    · exact weighOpen_keeps r s
    · exact (abandonQuiet_sameData s).keeps.trans (weighOpen_keeps r _)
    · exact ((beginWake_sameData s).trans {}).keeps
    · exact SameData.keeps {}

theorem weighWaiting_keeps (s : State) : KeepsData s (weighWaiting s) := by
  cases h : s.port.waiting with
  | none =>
    rw [weighWaiting_none h]
    exact .refl s
  | some r =>
    rw [weighWaiting_some h]
    exact KeepsData.trans (SameData.keeps {}) (weigh_keeps r _)

theorem changePath_keeps {p : PathState} (hp : p ≠ .hold) (s : State) : KeepsData s (changePath p s) :=
  (moveTo_sameData hp s).keeps.trans (weighWaiting_keeps _)

theorem resume_path_ne_hold (r : ResumeState) : r.path ≠ .hold := by cases r <;> nofun

theorem present_keeps (r : Request) (s : State) : KeepsData s (present r s) := by
  unfold present
  split
  · exact .refl s
  · exact weigh_keeps r s

theorem discardReads_keeps (s : State) : KeepsData s (discardReads s) :=
  { reads := fun h => readsOk_of_sublist h (List.nil_sublist _) rfl le_rfl }

theorem enterDraining_keeps (s : State) : KeepsData s (enterDraining s) :=
  (((moveTo_sameData (by decide) s).trans (withdrawPeek_sameData _)).trans (raise_sameData ..)).keeps.trans
    (weighWaiting_keeps _)

/-! ## Resets (R160) -/

theorem default_paramsOk : ParamsOk Params.default := by decide

theorem reset_subsOk : SubsOk State.reset := by
  have htable (i : Fin 32) : State.reset.subs.table.get i = none := by
    simp [State.reset, get_eq]
  have hspare (a : ArrayNo) (t : SpareNo) : State.reset.spare a t = .free := by
    simp [State.reset, State.spare, get_eq]
  refine ⟨fun i e he => ?_, fun i j e he => ?_, fun i j e he => ?_, fun a t => ?_⟩
  · rw [htable] at he
    cases he
  · rw [htable] at he
    cases he
  · rw [htable] at he
    cases he
  · simp [htable, hspare]

theorem reset_steerOk : SteerOk State.reset := by
  have hsteer (a : ArrayNo) : State.reset.steerOf a = .normal := by
    simp [State.reset, State.steerOf, get_eq]
  rw [steerOk_iff]
  intro a
  rw [hsteer a]
  exact steerRecordOk_normal

/-- A reset restores each block's invariant, whatever stood before (R160). -/
theorem resetTo_keeps (causes : CauseRecord) (s : State) : KeepsData s (resetTo causes s) where
  params _ := default_paramsOk
  mem _ := reset_mem_wf
  map _ := emptied_mapOk
  subs _ := subsOk_congr rfl reset_subsOk
  steer _ := steerOk_congr rfl reset_steerOk
  scrub _ := ⟨installed_zero _, zero_lt_physRows, zero_lt_columns⟩
  queue _ := ⟨Nat.zero_le _, List.nodup_nil, nofun⟩
  reads _ := ⟨Nat.zero_le _, List.nodup_nil, List.Pairwise.nil, nofun⟩
  receiver _ := ⟨fun _ => rfl, rfl⟩

end Sys2Proof.Machine
end

section
/-! SUPPORT. What keeps the path state in agreement with the rest of the part (R157 to R168): the changes that every block
makes without regard to it, and the few by which it moves. -/

namespace Sys2Proof.Machine

set_option Elab.async false

/-! ## Stillness (R158) -/

theorem still_iff (s : State) : still s = true ↔
    s.queue = [] ∧ s.port.reads = [] ∧ ∀ a, installed s a = true → s.turn a = none := by
  have himp (a : ArrayNo) : (!installed s a || (s.turn a).isNone) = true ↔ (installed s a = true → s.turn a = none) := by
    cases installed s a <;> simp
  simp only [still, allIdle, Bool.and_eq_true, List.isEmpty_iff, List.all_eq_true, himp, List.mem_finRange, true_implies,
    and_assoc]

/-- The part stays still when no entry, read or turn comes to be. -/
theorem still_of {s t : State} (hq : s.queue = [] → t.queue = []) (hr : s.port.reads = [] → t.port.reads = [])
    (ha : t.params.arrays = s.params.arrays) (ht : ∀ a, s.turn a = none → t.turn a = none) (h : still s = true) :
    still t = true := by
  rw [still_iff] at h ⊢
  obtain ⟨hsq, hsr, hst⟩ := h
  refine ⟨hq hsq, hr hsr, fun a hi => ht a (hst a ?_)⟩
  rwa [installed, ← ha]

/-! ## Changes that the path state allows -/

/-- A path state that is a resume state (R157). -/
abbrev Resumable (p : PathState) : Prop := p = .setup ∨ p = .filling ∨ p = .opened

/-- A change that keeps the path state in agreement wherever it comes: the path state stays, or a wake begins in QUIET; no
command comes into execution or leaves it where that would tell; a request is kept waiting only where one may wait; and in
a path state that grants nothing the part stays still. -/
structure Calm (s t : State) : Prop where
  path : t.path.path = s.path.path ∨ (s.path.path = .quiet ∧ t.path.path = .waking) := by exact .inl rfl
  resume : t.path.resume = s.path.resume ∨ ¬Resumable t.path.path := by exact .inl rfl
  retention : t.path.retentionExit = s.path.retentionExit := by rfl
  busReset : t.busReset = s.busReset := by rfl
  warning : t.supplyWarning = s.supplyWarning := by rfl
  quiesce : quiesceWithheld t = quiesceWithheld s := by rfl
  peek : peekWaits t = true → peekWaits s = true ∨ Resumable t.path.path := by exact .inl
  waiting : t.port.waiting.isSome = true →
    s.port.waiting.isSome = true ∨ ((t.path.path = .opened ∨ t.path.path = .waking) ∧ t.busReset = false) := by exact .inl
  still : s.path.path.grantsNothing = true → still s = true → still t = true := by exact fun _ => id

theorem Calm.refl (s : State) : Calm s s := {}

theorem Calm.resumable_iff {s t : State} (h : Calm s t) : Resumable t.path.path ↔ Resumable s.path.path := by
  rcases h.path with hp | ⟨hs, ht⟩
  · rw [hp]
  · simp [Resumable, hs, ht]

theorem Calm.mayWait {s t : State} (h : Calm s t) (hs : s.path.path = .opened ∨ s.path.path = .waking) :
    t.path.path = .opened ∨ t.path.path = .waking := by
  rcases h.path with hp | ⟨-, ht⟩
  · rwa [hp]
  · exact .inr ht

theorem Calm.grantsNothing {s t : State} (h : Calm s t) : t.path.path.grantsNothing = s.path.path.grantsNothing := by
  rcases h.path with hp | ⟨hs, ht⟩
  · rw [hp]
  · rw [hs, ht]
    rfl

theorem Calm.trans {s t u : State} (h : Calm s t) (g : Calm t u) : Calm s u where
  path := by
    rcases g.path with gp | ⟨gs, gt⟩
    · rw [gp]
      exact h.path
    · rcases h.path with hp | ⟨-, ht⟩
      · exact .inr ⟨hp ▸ gs, gt⟩
      · rw [ht] at gs
        cases gs
  resume := by
    rcases g.resume with gr | gr
    · rw [gr, g.resumable_iff]
      exact h.resume
    · exact .inr gr
  retention := g.retention.trans h.retention
  busReset := g.busReset.trans h.busReset
  warning := g.warning.trans h.warning
  quiesce := g.quiesce.trans h.quiesce
  peek hu := (g.peek hu).elim (fun ht => (h.peek ht).imp_right g.resumable_iff.mpr) .inr
  waiting hu := by
    rcases g.waiting hu with ht | hw
    · exact (h.waiting ht).imp_right fun hw => ⟨g.mayWait hw.1, g.busReset ▸ hw.2⟩
    · exact .inr hw
  still hn hs := g.still (h.grantsNothing ▸ hn) (h.still hn hs)

/-- The path states other than QUIET and WAKING hold as before. -/
theorem Calm.path_iff {s t : State} (h : Calm s t) {p : PathState} (hp : p ≠ .quiet ∧ p ≠ .waking) :
    t.path.path = p ↔ s.path.path = p := by
  rcases h.path with ht | ⟨hs, ht⟩
  · rw [ht]
  · rw [hs, ht]
    exact ⟨fun e => absurd e.symm hp.2, fun e => absurd e.symm hp.1⟩

theorem Calm.pathOk {s t : State} (h : Calm s t) (hs : PathOk s) : PathOk t := by
  obtain ⟨hstill, hquiesce, hpeek, hwait, hdrain, hfrozen, hwarn, hret, hsetup, hfilling, hopened⟩ := hs
  have hpath {p : PathState} := h.path_iff (p := p)
  have hresume (hr : Resumable t.path.path) : t.path.resume = s.path.resume := h.resume.resolve_right fun hn => hn hr
  refine ⟨fun hn => ?_, ?_, fun hp => ?_, fun hw => ?_, fun hp => ?_, fun hp => ?_, fun h1 h2 h3 => ?_, fun hr => ?_,
    fun hp => ?_, fun hp => ?_, fun hp => ?_⟩
  · rw [h.grantsNothing] at hn
    exact h.still hn (hstill hn)
  · rw [h.quiesce, hpath (p := .enteringQuiet) (by decide)]
    exact hquiesce
  · exact (h.peek hp).elim (fun hp => h.resumable_iff.mpr (hpeek hp)) id
  · rcases h.waiting hw with hw | hw
    · exact ⟨h.mayWait (hwait hw).1, h.busReset ▸ (hwait hw).2⟩
    · exact hw
  · rw [h.warning]
    exact hdrain ((hpath (by decide)).mp hp)
  · rw [h.warning, h.retention]
    exact hfrozen ((hpath (by decide)).mp hp)
  · rw [h.warning]
    exact hwarn (fun e => h1 ((hpath (by decide)).mpr e)) (fun e => h2 ((hpath (by decide)).mpr e))
      (fun e => h3 ((hpath (by decide)).mpr e))
  · exact (hpath (by decide)).mpr (hret (h.retention ▸ hr))
  · rw [hresume (.inl hp)]
    exact hsetup ((hpath (by decide)).mp hp)
  · rw [hresume (.inr (.inl hp))]
    exact hfilling ((hpath (by decide)).mp hp)
  · rw [hresume (.inr (.inr hp))]
    exact hopened ((hpath (by decide)).mp hp)

/-! ## Operations that are calm -/

/-- What a repair block does is calm: turns stay in progress or idle, and a flag raised in QUIET begins a wake. -/
theorem SameBeyondRepair.calm {a : ArrayNo} {s t : State} (h : SameBeyondRepair s t) (r : ReachesAt a s t) : Calm s t where
  path := by
    rcases r.path with hp | ⟨hq, hp⟩
    · exact .inl (congrArg PathController.path hp)
    · exact .inr ⟨hq, congrArg PathController.path hp⟩
  resume := by
    rcases r.path with hp | ⟨-, hp⟩ <;> exact .inl (by rw [hp])
  retention := by
    rcases r.path with hp | ⟨-, hp⟩ <;> rw [hp]
  busReset := h.busReset
  warning := h.supplyWarning
  quiesce := by rw [quiesceWithheld, h.link, quiesceWithheld]
  peek := by
    rw [peekWaits, h.link]
    exact .inl
  waiting := by
    rw [h.port]
    exact .inl
  still _ := still_of (by rw [h.queue]; exact id) (by rw [h.port]; exact id) (congrArg Params.arrays h.params) (fun b hb => by
    by_cases hba : b = a
    · subst hba
      rw [← Option.isNone_iff_eq_none, r.own, hb]
      rfl
    · rw [r.others b hba, hb])

theorem raise_calm (f : AlertFlag) (s : State) : Calm s (raise f s) := (raise_same f s).calm (raise_reachesAt 0 f s)

theorem report_calm (a : ArrayNo) (i : PhysIndex) (g : Origin) (d : Decoded) (s : State) :
    Calm s (report a i g d s) := (report_same a i g d s).calm (report_reachesAt a i g d s)

theorem condemnRowEngine_calm (auto : Bool) (a : ArrayNo) (row : Nat) (s : State) :
    Calm s (condemnRowEngine auto a row s).1 := (condemnRowEngine_same ..).calm (condemnRowEngine_reachesAt ..)

theorem mapTurn_calm (a : ArrayNo) (f : TurnWork → TurnWork) (s : State) : Calm s (mapTurn a f s) :=
  (mapTurn_same a f s).calm (mapTurn_reachesAt a f s)

theorem beginWake_calm {s : State} (h : s.path.path = .quiet) : Calm s (beginWake s) :=
  { path := .inr ⟨h, rfl⟩ }

theorem changeAlert_calm (u : AlertUnit) (s : State) : Calm s (changeAlert u s) := by
  rcases changeAlert_cases u s with h | ⟨hq, -, -, h⟩
  · rw [h]
    exact {}
  · rw [h]
    exact { path := .inr ⟨hq, rfl⟩ }

theorem endTurn_calm (a : ArrayNo) (s : State) : Calm s (endTurn a s) where
  still _ := still_of id id rfl fun b hb => by
    rw [endTurn, turn_setTurn]
    split
    · rfl
    · exact hb

theorem disturb_calm (a : ArrayNo) (i : PhysIndex) (flips : Stored) (s : State) : Calm s (disturb a i flips s) := by
  rw [disturb_eq_withMem]
  exact {}

theorem setWords_calm (a : ArrayNo) (w : Stored) (is : List PhysIndex) (s : State) : Calm s (setWords a w is s) := by
  rw [setWords_eq_withMem]
  exact {}

theorem repairWrite_calm (a : ArrayNo) (i : PhysIndex) (r : SteerRecord) (d : Decoded) (s : State) :
    Calm s (repairWrite a i r d s) := by
  unfold repairWrite
  split <;> exact {}

end Sys2Proof.Machine
end

section
/-! SUPPORT. The moves of the path state (R159 to R170), and the requests weighed at them (R144 to R146). -/

namespace Sys2Proof.Machine

set_option Elab.async false

/-! ## Where the path state agrees -/

theorem quiesceWithheld_iff (s : State) : quiesceWithheld s = true ↔ ∃ q, s.link.lock = some ⟨q, .quiesce⟩ := by
  unfold quiesceWithheld
  split
  · exact ⟨fun _ => ⟨_, ‹_›⟩, fun _ => rfl⟩
  · rename_i hn
    exact ⟨nofun, fun ⟨q, hq⟩ => absurd hq (hn q)⟩

theorem quiesceWithheld_of_no_lock {s : State} (h : s.link.lock = none) : quiesceWithheld s = false := by
  rw [quiesceWithheld, h]

/-- A resume state agrees with the rest when no QUIESCE is withheld, no warning asserted and no retention left (R157). -/
theorem pathOk_of_resumable {s : State} (hp : s.path.path = s.path.resume.path) (hq : quiesceWithheld s = false)
    (hwait : s.port.waiting.isSome = true → s.path.path = .opened ∧ s.busReset = false)
    (hw : s.supplyWarning = false) (hr : s.path.retentionExit = false) : PathOk s := by
  have hwait' (h : s.port.waiting.isSome = true) : (s.path.path = .opened ∨ s.path.path = .waking) ∧ s.busReset = false :=
    (hwait h).imp_left .inl
  cases hres : s.path.resume <;> rw [hres] at hp <;>
    exact ⟨by simp [hp, ResumeState.path, PathState.grantsNothing], by simp [hq, hp, ResumeState.path],
      by simp [hp, ResumeState.path], hwait', by simp [hp, ResumeState.path], by simp [hp, ResumeState.path],
      fun _ _ _ => hw, by simp [hr], by simp [hp, hres, ResumeState.path], by simp [hp, hres, ResumeState.path],
      by simp [hp, hres, ResumeState.path]⟩

/-- DRAINING agrees with the rest under an asserted warning, with nothing waiting (R167). -/
theorem pathOk_of_draining {s : State} (hp : s.path.path = .draining) (hq : quiesceWithheld s = false)
    (hpeek : peekWaits s = false) (hwait : s.port.waiting = none) (hw : s.supplyWarning = true)
    (hr : s.path.retentionExit = false) : PathOk s := by
  refine ⟨?_, ?_, ?_, ?_, ?_, ?_, ?_, ?_, ?_, ?_, ?_⟩ <;> simp [hp, hq, hpeek, hwait, hw, hr, PathState.grantsNothing]

/-- ENTERING-QUIET agrees with the rest under a withheld QUIESCE, with nothing waiting (R162). -/
theorem pathOk_of_enteringQuiet {s : State} (hp : s.path.path = .enteringQuiet) (hq : quiesceWithheld s = true)
    (hpeek : peekWaits s = false) (hwait : s.port.waiting = none) (hw : s.supplyWarning = false)
    (hr : s.path.retentionExit = false) : PathOk s := by
  refine ⟨?_, ?_, ?_, ?_, ?_, ?_, ?_, ?_, ?_, ?_, ?_⟩ <;> simp [hp, hq, hpeek, hwait, hw, hr, PathState.grantsNothing]

/-- QUIET agrees with the rest when the part is still and nothing waits (R163). -/
theorem pathOk_of_quiet {s : State} (hp : s.path.path = .quiet) (hs : still s = true) (hq : quiesceWithheld s = false)
    (hpeek : peekWaits s = false) (hwait : s.port.waiting = none) (hw : s.supplyWarning = false)
    (hr : s.path.retentionExit = false) : PathOk s := by
  refine ⟨?_, ?_, ?_, ?_, ?_, ?_, ?_, ?_, ?_, ?_, ?_⟩ <;> simp [hp, hs, hq, hpeek, hwait, hw, hr]

/-- FROZEN agrees with the rest when the part is still and nothing waits, outside a retention exit just under an asserted
warning (R168). -/
theorem pathOk_of_frozen {s : State} (hp : s.path.path = .frozen) (hs : still s = true) (hq : quiesceWithheld s = false)
    (hpeek : peekWaits s = false) (hwait : s.port.waiting = none) (hw : s.supplyWarning = !s.path.retentionExit) :
    PathOk s := by
  refine ⟨?_, ?_, ?_, ?_, ?_, ?_, ?_, ?_, ?_, ?_, ?_⟩ <;> simp [hp, hs, hq, hpeek, hwait, hw]

/-- HOLD agrees with the rest when the part is still and nothing waits (R160, R188). -/
theorem pathOk_of_hold {s : State} (hp : s.path.path = .hold) (hs : still s = true) (hq : quiesceWithheld s = false)
    (hpeek : peekWaits s = false) (hwait : s.port.waiting = none) (hr : s.path.retentionExit = false) : PathOk s := by
  refine ⟨?_, ?_, ?_, ?_, ?_, ?_, ?_, ?_, ?_, ?_, ?_⟩ <;> simp [hp, hs, hq, hpeek, hwait, hr]

/-- What PathOk says where no request may wait. -/
theorem waiting_none_of_pathOk {s : State} (h : PathOk s) (ho : s.path.path ≠ .opened) (hw : s.path.path ≠ .waking) :
    s.port.waiting = none := by
  cases hs : s.port.waiting with
  | none => rfl
  | some r =>
    have := (h.2.2.2.1 (by rw [hs]; rfl)).1
    exact absurd this (by simp [ho, hw])

theorem quiesce_of_pathOk {s : State} (h : PathOk s) (hp : s.path.path ≠ .enteringQuiet) : quiesceWithheld s = false :=
  Bool.eq_false_iff.mpr fun hq => hp (h.2.1.mp hq)

theorem peek_of_pathOk {s : State} (h : PathOk s) (hp : ¬Resumable s.path.path) : peekWaits s = false :=
  Bool.eq_false_iff.mpr fun hw => hp (h.2.2.1 hw)

theorem retention_of_pathOk {s : State} (h : PathOk s) (hp : s.path.path ≠ .frozen) : s.path.retentionExit = false :=
  Bool.eq_false_iff.mpr fun hr => hp (h.2.2.2.2.2.2.2.1 hr)

theorem warning_of_pathOk {s : State} (h : PathOk s) (h1 : s.path.path ≠ .hold) (h2 : s.path.path ≠ .draining)
    (h3 : s.path.path ≠ .frozen) : s.supplyWarning = false := h.2.2.2.2.2.2.1 h1 h2 h3

theorem still_of_pathOk {s : State} (h : PathOk s) (hp : s.path.path.grantsNothing = true) : still s = true := h.1 hp

/-! ## Weighing (R144 to R146) -/

/-- A request weighed in OPEN reaches the queue, the port and the alerts (R148, R149). -/
theorem weighOpen_frame (r : Request) {s : State} (hp : s.path.path = .opened) : weighOpen r s =
    { s with queue := (weighOpen r s).queue, port := (weighOpen r s).port, alert := (weighOpen r s).alert } := by
  cases r with
  | read tag w =>
    simp only [weighOpen, weighRead, takeRead]
    split
    · rfl
    · split
      · rfl
      · split
        · rfl
        · split
          · rfl
          · split <;> rfl
  | write w mask data parity =>
    simp only [weighOpen, weighWrite, takeWrite]
    split
    · rfl
    · split
      · rfl
      · split
        · split
          · rw [raise_outside_quiet (by
              show s.path.path ≠ .quiet
              rw [hp]
              nofun)]
            rfl
          · rfl
        · rfl

theorem weighOpen_calm (r : Request) {s : State} (hp : s.path.path = .opened) (hb : s.busReset = false) :
    Calm s (weighOpen r s) := by
  rw [weighOpen_frame r hp]
  exact { waiting := fun _ => .inr ⟨.inl hp, hb⟩
          still := fun hn => by
            rw [hp] at hn
            cases hn }

/-- ENTERING-QUIET abandoned: OPEN, with no command in execution (R164). -/
theorem abandonQuiet_pathOk {s : State} (h : PathOk s) (hp : s.path.path = .enteringQuiet) :
    PathOk (abandonQuiet s) ∧ (abandonQuiet s).path.path = .opened ∧ (abandonQuiet s).busReset = s.busReset ∧
    (abandonQuiet s).supplyWarning = s.supplyWarning ∧ (abandonQuiet s).port = s.port := by
  obtain ⟨q, hq⟩ := (quiesceWithheld_iff s).mp (h.2.1.mpr hp)
  have heq : abandonQuiet s = unlock (reply q .abandoned [] (setQuietOutcome .abandoned (moveTo .opened s))) := by
    simp only [abandonQuiet, answerQuiesce, setQuietOutcome_link, moveTo_link, hq]
  rw [heq]
  have hwait : s.port.waiting = none := waiting_none_of_pathOk h (by rw [hp]; nofun) (by rw [hp]; nofun)
  have hwarn : s.supplyWarning = false :=
    warning_of_pathOk h (by rw [hp]; nofun) (by rw [hp]; nofun) (by rw [hp]; nofun)
  have hret : s.path.retentionExit = false := retention_of_pathOk h (by rw [hp]; nofun)
  refine ⟨pathOk_of_resumable rfl rfl (fun hw => ?_) hwarn hret, rfl, rfl, rfl, rfl⟩
  have hw : s.port.waiting.isSome = true := hw
  rw [hwait] at hw
  cases hw

/-- A request weighed keeps the path state in agreement, whatever becomes of it (R144, R145). -/
theorem weigh_pathOk (r : Request) {s : State} (h : PathOk s) : PathOk (weigh r s) := by
  unfold weigh
  split
  · exact h
  · rename_i hb
    have hb : s.busReset = false := by simpa using hb
    have hclosed : PathOk (answerClosed r s) := by
      rw [answerClosed_eq]
      exact Calm.pathOk {} h
    split
    · exact h
    · exact hclosed
    · exact hclosed
    · exact hclosed
    · exact hclosed
    · exact (weighOpen_calm r ‹_› hb).pathOk h
    · obtain ⟨hok, hopen, hbus, -, -⟩ := abandonQuiet_pathOk h ‹_›
      exact (weighOpen_calm r hopen (hbus.trans hb)).pathOk hok
    · rename_i hp
      exact Calm.pathOk { path := .inr ⟨hp, rfl⟩, waiting := fun _ => .inr ⟨.inr rfl, hb⟩ } h
    · rename_i hp
      exact Calm.pathOk { waiting := fun _ => .inr ⟨.inr hp, hb⟩ } h

/-- A request kept waiting is weighed from a state in which it no longer waits (R146). -/
theorem weighWaiting_pathOk {s : State} (h : PathOk (discardWaiting s)) : PathOk (weighWaiting s) := by
  cases hw : s.port.waiting with
  | none =>
    have hs : discardWaiting s = s := by
      unfold discardWaiting
      rw [← hw]
    rwa [weighWaiting_none hw, ← hs]
  | some r =>
    rw [weighWaiting_some hw]
    exact weigh_pathOk r h

/-! ## Moves (R159, R161, R166 to R168) -/

/-- A move to a resume state, with a request in waiting weighed there (R146, R157). -/
theorem changePath_pathOk {s : State} {p : PathState} (hp : Resumable p) (hq : quiesceWithheld s = false)
    (hw : s.supplyWarning = false) (hr : s.path.retentionExit = false) : PathOk (changePath p s) := by
  refine weighWaiting_pathOk (pathOk_of_resumable ?_ hq nofun hw hr)
  rcases hp with rfl | rfl | rfl <;> rfl

theorem resume_path_resumable (r : ResumeState) : Resumable r.path := by
  cases r
  · exact .inl rfl
  · exact .inr (.inl rfl)
  · exact .inr (.inr rfl)

theorem withdrawPeek_frame (s : State) : withdrawPeek s = { s with link := (withdrawPeek s).link } := by
  unfold withdrawPeek
  split <;> rfl

/-- A waiting PEEK withdrawn leaves none waiting, and no QUIESCE where none was withheld (R46). -/
theorem withdrawPeek_lock (s : State) (hq : quiesceWithheld s = false) :
    quiesceWithheld (withdrawPeek s) = false ∧ peekWaits (withdrawPeek s) = false := by
  unfold withdrawPeek
  split
  · exact ⟨rfl, rfl⟩
  · rename_i hn
    refine ⟨hq, ?_⟩
    unfold peekWaits
    split
    · rename_i hl
      exact absurd hl (hn _ _ _)
    · rfl

/-- DRAINING entered under the supply warning (R46, R146, R167). -/
theorem enterDraining_pathOk {s : State} (hq : quiesceWithheld s = false) (hw : s.supplyWarning = true)
    (hr : s.path.retentionExit = false) : PathOk (enterDraining s) := by
  obtain ⟨hquiesce, hpeek⟩ := withdrawPeek_lock (moveTo .draining s) hq
  have hpath : (withdrawPeek (moveTo .draining s)).path = (moveTo .draining s).path := by rw [withdrawPeek_frame]
  have hraise : raise .supply (withdrawPeek (moveTo .draining s)) =
      (withdrawPeek (moveTo .draining s)).withFlags AlertFlag.supply.mask :=
    raise_outside_quiet (by rw [hpath]; nofun)
  refine weighWaiting_pathOk ?_
  rw [hraise]
  refine pathOk_of_draining ?_ hquiesce hpeek rfl ?_ ?_
  · exact congrArg PathController.path hpath
  · rw [withdrawPeek_frame]
    exact hw
  · exact (congrArg PathController.retentionExit hpath).trans hr

end Sys2Proof.Machine
end

section
/-! SUPPORT. Resets, the bus reset line, the supply warning, the timed ends and the requests keep the invariant (R144, R154 to
R170). -/

namespace Sys2Proof.Machine

set_option Elab.async false

/-! ## The relation that every command stands in -/

/-- A change of state that keeps every block's invariant, each for itself. -/
structure Keeps (s t : State) : Prop extends KeepsData s t where
  path : PathOk s → PathOk t

theorem KeepsData.and_calm {s t : State} (h : KeepsData s t) (g : Calm s t) : Keeps s t := { h with path := g.pathOk }

theorem SameData.and_calm {s t : State} (h : SameData s t) (g : Calm s t) : Keeps s t := h.keeps.and_calm g

theorem Keeps.refl (s : State) : Keeps s s := (KeepsData.refl s).and_calm (Calm.refl s)

theorem Keeps.trans {s t u : State} (h : Keeps s t) (g : Keeps t u) : Keeps s u :=
  { h.toKeepsData.trans g.toKeepsData with path := fun x => g.path (h.path x) }

theorem Keeps.inv {s t : State} (h : Keeps s t) (hs : Inv s) : Inv t := by
  obtain ⟨hparams, hmem, hmap, hsubs, hsteer, hscrub, hqueue, hreads, hpath, hreceiver⟩ := hs
  exact ⟨h.params hparams, h.mem hmem, h.map hmap, h.subs hsubs, h.steer hsteer, h.scrub hscrub, h.queue hqueue,
    h.reads hreads, h.path hpath, h.receiver hreceiver⟩

/-! ## Resets (R160) -/

theorem still_resetTo (causes : CauseRecord) (s : State) : still (resetTo causes s) = true := by
  rw [still_iff]
  refine ⟨rfl, rfl, fun a _ => ?_⟩
  simp [resetTo, State.reset, State.turn, get_eq]

theorem resetTo_keepsAll (causes : CauseRecord) (s : State) : Keeps s (resetTo causes s) :=
  { resetTo_keeps causes s with path := fun _ => pathOk_of_hold rfl (still_resetTo causes s) rfl rfl rfl rfl }

theorem execPowerOn_keeps {s t : State} (h : execPowerOn s = .next t) : Keeps s t := by
  cases Host.Outcome.next.inj h
  exact resetTo_keepsAll _ s

theorem execSupplyDip_keeps {s t : State} (h : execSupplyDip s = .next t) : Keeps s t := by
  cases Host.Outcome.next.inj h
  exact resetTo_keepsAll _ s

/-! ## The end of HOLD (R159) -/

theorem execHoldEnd_keeps {s t : State} (h : execHoldEnd s = .next t) : Keeps s t := by
  cases Host.Outcome.next.inj h
  split
  next hh =>
    obtain ⟨hp, -⟩ := hh
    have hquiesce (hs : PathOk s) : quiesceWithheld s = false := quiesce_of_pathOk hs (by rw [hp]; nofun)
    have hret (hs : PathOk s) : s.path.retentionExit = false := retention_of_pathOk hs (by rw [hp]; nofun)
    split
    next hw =>
      exact { (moveTo_sameData (by decide) s).keeps.trans (enterDraining_keeps _) with
        path := fun hs => enterDraining_pathOk (hquiesce hs) hw (hret hs) }
    next hw =>
      exact { changePath_keeps (by decide) s with
        path := fun hs => changePath_pathOk (.inl rfl) (hquiesce hs) (by simpa using hw) (hret hs) }
  · exact .refl s

/-! ## The bus reset line (R154, R155, R170) -/

/-- What an assertion does in every path state but HOLD before the path state moves: reads and a request in waiting
discarded, the cause recorded (R154, R171). -/
def busResetCleared (s : State) : State :=
  recordCause .busReset (discardWaiting (discardReads { s with busReset := true }))

theorem busResetCleared_keeps (s : State) : Keeps s (busResetCleared s) where
  toKeepsData := (discardReads_keeps s).trans (SameData.keeps {})
  path hs := by
    obtain ⟨hstill, hquiesce, hpeek, -, hrest⟩ := hs
    exact ⟨fun hn => still_of (s := s) id (fun _ => rfl) rfl (fun _ => id) (hstill hn), hquiesce, hpeek, nofun, hrest⟩

theorem busResetPath_keeps (s : State) : Keeps s (busResetPath s) := by
  unfold busResetPath
  split
  next hp => exact { (abandonQuiet_sameData s).keeps with path := fun hs => (abandonQuiet_pathOk hs hp).1 }
  next hp => exact (beginWake_sameData s).and_calm (beginWake_calm hp)
  all_goals exact .refl s

theorem execBusResetAsserted_keeps {s t : State} (h : execBusResetAsserted s = .next t) : Keeps s t := by
  cases Host.Outcome.next.inj h
  split
  · exact .refl s
  · split
    next hp =>
      refine { SameData.keeps {} with path := fun hs => ?_ }
      have hwait : s.port.waiting = none := waiting_none_of_pathOk hs (by rw [hp]; nofun) (by rw [hp]; nofun)
      obtain ⟨hstill, hquiesce, hpeek, -, hrest⟩ := hs
      exact ⟨hstill, hquiesce, hpeek, fun hw => by simp [hwait] at hw, hrest⟩
    next => exact (busResetCleared_keeps s).trans (busResetPath_keeps _)

theorem execBusResetReleased_keeps {s t : State} (h : execBusResetReleased s = .next t) : Keeps s t := by
  cases Host.Outcome.next.inj h
  refine { SameData.keeps {} with path := fun hs => ?_ }
  obtain ⟨hstill, hquiesce, hpeek, hwait, hrest⟩ := hs
  exact ⟨hstill, hquiesce, hpeek, fun hw => ⟨(hwait hw).1, rfl⟩, hrest⟩

/-! ## The supply warning (R167, R168) -/

/-- What PathOk says where no command and no request may wait: HOLD, QUIET, DRAINING and FROZEN. -/
theorem nothingWaits_of_pathOk {s : State} (h : PathOk s)
    (hp : s.path.path = .hold ∨ s.path.path = .quiet ∨ s.path.path = .draining ∨ s.path.path = .frozen) :
    quiesceWithheld s = false ∧ peekWaits s = false ∧ s.port.waiting = none := by
  rcases hp with hp | hp | hp | hp <;>
    exact ⟨quiesce_of_pathOk h (by simp [hp]), peek_of_pathOk h (by simp [hp]),
      waiting_none_of_pathOk h (by simp [hp]) (by simp [hp])⟩

/-- A drain started by the warning, from a path state in which no QUIESCE is withheld (R167). -/
theorem enterDraining_warned_keeps {s : State} (hp : s.path.path ≠ .enteringQuiet) (hf : s.path.path ≠ .frozen) :
    Keeps s (enterDraining { s with supplyWarning := true }) where
  toKeepsData := KeepsData.trans (SameData.keeps {}) (enterDraining_keeps _)
  path hs :=
    have hquiesce : quiesceWithheld s = false := quiesce_of_pathOk hs hp
    have hret : s.path.retentionExit = false := retention_of_pathOk hs hf
    enterDraining_pathOk hquiesce rfl hret

theorem abandonQuiet_warned (s : State) :
    abandonQuiet { s with supplyWarning := true } = { abandonQuiet s with supplyWarning := true } := by
  unfold abandonQuiet answerQuiesce
  dsimp only [setQuietOutcome, moveTo]
  split <;> rfl

theorem execSupplyWarningAsserted_keeps {s t : State} (h : execSupplyWarningAsserted s = .next t) : Keeps s t := by
  cases Host.Outcome.next.inj h
  split
  · exact .refl s
  · dsimp only
    split
    next hp => exact enterDraining_warned_keeps (by rw [hp]; nofun) (by rw [hp]; nofun)
    next hp => exact enterDraining_warned_keeps (by rw [hp]; nofun) (by rw [hp]; nofun)
    next hp => exact enterDraining_warned_keeps (by rw [hp]; nofun) (by rw [hp]; nofun)
    next hp => exact enterDraining_warned_keeps (by rw [hp]; nofun) (by rw [hp]; nofun)
    next hp => exact enterDraining_warned_keeps (by rw [hp]; nofun) (by rw [hp]; nofun)
    next hp =>
      rw [abandonQuiet_warned]
      have habandon : Keeps s (abandonQuiet s) :=
        { (abandonQuiet_sameData s).keeps with path := fun hs => (abandonQuiet_pathOk hs hp).1 }
      have hopen : (abandonQuiet s).path.path = .opened := by
        unfold abandonQuiet answerQuiesce
        split <;> rfl
      exact habandon.trans (enterDraining_warned_keeps (by rw [hopen]; nofun) (by rw [hopen]; nofun))
    next hp =>
      refine { SameData.keeps {} with path := fun hs => ?_ }
      have hstill : still s = true := still_of_pathOk hs (by rw [hp]; rfl)
      obtain ⟨hquiesce, hpeek, hwait⟩ := nothingWaits_of_pathOk hs (.inr (.inr (.inr hp)))
      exact pathOk_of_frozen hp hstill hquiesce hpeek hwait rfl
    next hp =>
      refine { SameData.keeps {} with path := fun hs => ?_ }
      have hstill : still s = true := still_of_pathOk hs (by rw [hp]; rfl)
      have hret : s.path.retentionExit = false := retention_of_pathOk hs (by rw [hp]; nofun)
      obtain ⟨hquiesce, hpeek, hwait⟩ := nothingWaits_of_pathOk hs (.inl hp)
      exact pathOk_of_hold hp hstill hquiesce hpeek hwait hret
    next hp =>
      refine { SameData.keeps {} with path := fun hs => ?_ }
      have hret : s.path.retentionExit = false := retention_of_pathOk hs (by rw [hp]; nofun)
      obtain ⟨hquiesce, hpeek, hwait⟩ := nothingWaits_of_pathOk hs (.inr (.inr (.inl hp)))
      exact pathOk_of_draining hp hquiesce hpeek hwait rfl hret

/-- The warning released where it stood for nothing, or in HOLD (R159). -/
theorem warningReleased_pathOk {s : State} (hd : s.path.path ≠ .draining) (hf : s.path.path ≠ .frozen) (hs : PathOk s) :
    PathOk { s with supplyWarning := false } := by
  obtain ⟨hstill, hquiesce, hpeek, hwait, -, -, -, hrest⟩ := hs
  exact ⟨hstill, hquiesce, hpeek, hwait, fun h => absurd h hd, fun h => absurd h hf, fun _ _ _ => rfl, hrest⟩

theorem execSupplyWarningReleased_keeps {s t : State} (h : execSupplyWarningReleased s = .next t) : Keeps s t := by
  cases Host.Outcome.next.inj h
  split
  · dsimp only
    split
    next hp =>
      refine { KeepsData.trans (SameData.keeps {}) (changePath_keeps (resume_path_ne_hold _) _) with path := fun hs => ?_ }
      have hret : s.path.retentionExit = false := retention_of_pathOk hs (by rw [hp]; nofun)
      have hquiesce : quiesceWithheld s = false := quiesce_of_pathOk hs (by rw [hp]; nofun)
      exact changePath_pathOk (resume_path_resumable _) hquiesce rfl hret
    next hp =>
      refine { SameData.keeps {} with path := fun hs => ?_ }
      have hstill : still s = true := still_of_pathOk hs (by rw [hp]; rfl)
      obtain ⟨hquiesce, hpeek, hwait⟩ := nothingWaits_of_pathOk hs (.inr (.inr (.inr hp)))
      exact pathOk_of_frozen hp hstill hquiesce hpeek hwait rfl
    all_goals
      rename_i hp
      exact { SameData.keeps {} with
        path := warningReleased_pathOk (by rw [hp]; nofun) (by rw [hp]; nofun) }
  · exact .refl s

/-! ## Timed ends (R163, R166, R168) -/

theorem execRetentionExitEnd_keeps {s t : State} (h : execRetentionExitEnd s = .next t) : Keeps s t := by
  cases Host.Outcome.next.inj h
  split
  next hh =>
    obtain ⟨hp, hret⟩ := hh
    refine { KeepsData.trans (SameData.keeps {}) (changePath_keeps (resume_path_ne_hold _) _) with path := fun hs => ?_ }
    have hquiesce : quiesceWithheld s = false := quiesce_of_pathOk hs (by rw [hp]; nofun)
    have hwarn : s.supplyWarning = false := by
      obtain ⟨-, -, -, -, -, hfrozen, -⟩ := hs
      rw [hfrozen hp, hret]
      rfl
    exact changePath_pathOk (resume_path_resumable _) hquiesce hwarn rfl
  · exact .refl s

theorem execWakeEnd_keeps {s t : State} (h : execWakeEnd s = .next t) : Keeps s t := by
  cases Host.Outcome.next.inj h
  split
  next hp =>
    exact { changePath_keeps (resume_path_ne_hold _) s with
      path := fun hs => changePath_pathOk (resume_path_resumable _) (quiesce_of_pathOk hs (by rw [hp]; nofun))
        (warning_of_pathOk hs (by rw [hp]; nofun) (by rw [hp]; nofun) (by rw [hp]; nofun))
        (retention_of_pathOk hs (by rw [hp]; nofun)) }
  · exact .refl s

/-- QUIET entered, before a wake begins: QUIESCE answered ENTERED (R163). -/
def quietEntered (s : State) : State := answerQuiesce .entered (setQuietOutcome .entered (moveTo .quiet s))

theorem quietEntered_path (s : State) : (quietEntered s).path.path = .quiet := by
  unfold quietEntered answerQuiesce
  split <;> rfl

theorem quietEntered_keeps {s : State} (hp : s.path.path = .enteringQuiet) (hstill : still s = true) :
    Keeps s (quietEntered s) := by
  have hdata : SameData s (quietEntered s) :=
    SameData.trans (t := setQuietOutcome .entered (moveTo .quiet s)) { hold := nofun } (answerQuiesce_sameData ..)
  refine { hdata.keeps with path := fun hs => ?_ }
  obtain ⟨q, hq⟩ := (quiesceWithheld_iff s).mp (hs.2.1.mpr hp)
  have heq : quietEntered s = unlock (reply q .entered [] (setQuietOutcome .entered (moveTo .quiet s))) := by
    simp only [quietEntered, answerQuiesce, setQuietOutcome_link, moveTo_link, hq]
  have hwait : s.port.waiting = none := waiting_none_of_pathOk hs (by rw [hp]; nofun) (by rw [hp]; nofun)
  have hwarn : s.supplyWarning = false :=
    warning_of_pathOk hs (by rw [hp]; nofun) (by rw [hp]; nofun) (by rw [hp]; nofun)
  have hret : s.path.retentionExit = false := retention_of_pathOk hs (by rw [hp]; nofun)
  rw [heq]
  exact pathOk_of_quiet rfl hstill rfl rfl hwait hwarn hret

theorem execQuietEntryComplete_keeps {s t : State} (h : execQuietEntryComplete s = .next t) : Keeps s t := by
  cases Host.Outcome.next.inj h
  split
  next hh =>
    obtain ⟨hp, hstill⟩ := hh
    have hentered : Keeps s (quietEntered s) := quietEntered_keeps hp hstill
    dsimp only
    split
    · exact hentered.trans ((beginWake_sameData _).and_calm (beginWake_calm (quietEntered_path s)))
    · exact hentered
  · exact .refl s

theorem execDrainToFrozen_keeps {s t : State} (h : execDrainToFrozen s = .next t) : Keeps s t := by
  cases Host.Outcome.next.inj h
  split
  next hh =>
    obtain ⟨hp, hstill⟩ := hh
    refine { (moveTo_sameData (by decide) s).keeps with path := fun hs => ?_ }
    obtain ⟨hquiesce, hpeek, hwait⟩ := nothingWaits_of_pathOk hs (.inr (.inr (.inl hp)))
    have hret : s.path.retentionExit = false := retention_of_pathOk hs (by rw [hp]; nofun)
    have hwarn : s.supplyWarning = true := hs.2.2.2.2.1 hp
    exact pathOk_of_frozen rfl hstill hquiesce hpeek hwait (hwarn.trans (congrArg (!·) hret).symm)
  · exact .refl s

/-! ## Requests (R144 to R146) -/

theorem present_pathOk (r : Request) {s : State} (h : PathOk s) : PathOk (present r s) := by
  unfold present
  split
  · exact h
  · exact weigh_pathOk r h

theorem execReadRequest_keeps {tag : BitVec 4} {w : BitVec 28} {s t : State} (h : execReadRequest tag w s = .next t) :
    Keeps s t := by
  cases Host.Outcome.next.inj h
  exact { present_keeps _ s with path := present_pathOk _ }

theorem execWriteRequest_keeps {w : BitVec 28} {mask : Byte} {data : Data} {parity : Byte} {s t : State}
    (h : execWriteRequest w mask data parity s = .next t) : Keeps s t := by
  cases Host.Outcome.next.inj h
  exact { present_keeps _ s with path := present_pathOk _ }

theorem execRequestWeighedAgain_keeps {s t : State} (h : execRequestWeighedAgain s = .next t) : Keeps s t := by
  cases Host.Outcome.next.inj h
  refine { weighWaiting_keeps s with path := fun hs => weighWaiting_pathOk ?_ }
  exact Calm.pathOk { waiting := nofun } hs

end Sys2Proof.Machine
end

section
/-! SUPPORT. Every grant finds the words it names (R28), and grants keep the invariant (R32, R34). -/

namespace Sys2Proof.Machine

set_option Elab.async false

/-! ## The rows named are rows of the array (R17, R22, R23, R114) -/

theorem exists_finOf? {k n : Nat} (h : n < k) : ∃ i, finOf? k n = some i := ⟨⟨n, h⟩, finOf?_some rfl⟩

theorem exists_wordAt {row column : Nat} (hr : row < physRows) (hc : column < columns) : ∃ w, wordAt row column = some w := by
  rw [wordAt, if_pos ⟨hc, hr⟩]
  refine exists_finOf? ?_
  simp only [physRows, columns, wordsPerArray] at *
  omega

theorem exists_wordsAt {column : Nat} (hc : column < columns) {rows : List Nat} (hr : ∀ r ∈ rows, r < physRows) :
    ∃ ws, wordsAt column rows = some ws := by
  induction rows with
  | nil => exact ⟨[], rfl⟩
  | cons r rows ih =>
    obtain ⟨w, hw⟩ := exists_wordAt (hr r List.mem_cons_self) hc
    obtain ⟨ws, hws⟩ := ih fun x hx => hr x (List.mem_cons_of_mem r hx)
    exact ⟨w :: ws, by simp only [wordsAt, hw, hws]⟩

theorem hostRows_lt_physRows : hostRows < physRows := by decide

theorem spareRow_lt (t : SpareNo) : spareRow t < physRows := by
  have := t.isLt
  simp only [spareRow, hostRows, physRows]
  omega

theorem sourceRow_lt {e : SubEntry} (h : e.hostRow < hostRows) (src : CopySource) : sourceRow e src < physRows := by
  cases src with
  | hostRow => exact h.trans hostRows_lt_physRows
  | spare t => exact spareRow_lt t

theorem writeRows_lt (s : State) (a : ArrayNo) {row : Nat} (h : row < hostRows) (column : Nat) :
    ∀ r ∈ writeRows s a row column, r < physRows := by
  cases hf : entryFor s a row with
  | none =>
    rw [(rows_of_no_entry hf column).2]
    simpa using h.trans hostRows_lt_physRows
  | some x =>
    obtain ⟨i, e⟩ := x
    obtain ⟨-, -, rfl⟩ := entryFor_some hf
    cases hp : e.phase with
    | active =>
      rw [(rows_of_active hf hp column).2]
      simpa using spareRow_lt e.target
    | copying src c =>
      rw [(rows_of_copying hf hp column).2]
      split
      · simpa using ⟨sourceRow_lt h src, spareRow_lt e.target⟩
      · simpa using sourceRow_lt h src

theorem readRow_lt (s : State) (a : ArrayNo) {row : Nat} (h : row < hostRows) (column : Nat) :
    readRow s a row column < physRows := writeRows_lt s a h column _ (readRow_mem_writeRows ..)

theorem scrubRow_lt (s : State) (a : ArrayNo) {row : Nat} (h : row < physRows) : scrubRow s a row < physRows := by
  unfold scrubRow
  split
  · exact h
  next hr =>
    split
    · exact h
    next i e hf =>
      obtain ⟨-, -, hrow⟩ := entryFor_some hf
      split
      · exact spareRow_lt e.target
      · exact sourceRow_lt (hrow ▸ Nat.lt_of_not_le hr) _

/-! ## No grant fails (R28) -/

theorem exists_grantHostRead (a : ArrayNo) {s : State} (h : ReadsOk s) : ∃ t, grantHostRead a s = some t := by
  cases hr : readChoice s a with
  | none => exact ⟨s, by simp only [grantHostRead, hr]⟩
  | some r =>
    obtain ⟨hrange, hhome, -⟩ := h.2.2.2 r (List.mem_of_find?_eq_some hr)
    have hrow : r.home.row < hostRows := hhome ▸ homeOf_row_lt hrange
    have hcol : r.home.column < columns := hhome ▸ homeOf_column_lt ..
    obtain ⟨w, hw⟩ := exists_wordAt (readRow_lt s a hrow r.home.column) hcol
    exact ⟨_, grantHostRead_eq hr hw⟩

theorem drainChoice_mem {s : State} {a : ArrayNo} {e : WriteEntry} (h : drainChoice s a = some e) : e ∈ s.queue :=
  List.mem_of_find?_eq_some h

theorem exists_grantDrain (a : ArrayNo) {s : State} (h : QueueOk s) : ∃ t, grantDrain a s = some t := by
  cases he : drainChoice s a with
  | none => exact ⟨s, by simp only [grantDrain, he]⟩
  | some e =>
    obtain ⟨hrange, -⟩ := h.2.2 e (drainChoice_mem he)
    have hrow := homeOf_row_lt hrange
    have hcol := homeOf_column_lt s.params.arrays e.addr
    obtain ⟨rw, hrw⟩ := exists_wordAt (readRow_lt s a hrow (homeOf s.params.arrays e.addr).column) hcol
    obtain ⟨ws, hws⟩ := exists_wordsAt hcol (writeRows_lt s a hrow (homeOf s.params.arrays e.addr).column)
    exact ⟨_, grantDrain_eq rfl he hrw hws⟩

theorem exists_grantCopy (a : ArrayNo) {s : State} (h : SubsOk s) : ∃ t, grantCopy a s = some t := by
  cases hc : copyChoice s a with
  | none => exact ⟨s, by simp only [grantCopy, hc]⟩
  | some x =>
    obtain ⟨i, e⟩ := x
    obtain ⟨hi, -⟩ := entryWhere_some hc
    cases hp : e.phase with
    | active => exact ⟨s, by simp only [grantCopy, hc, hp]⟩
    | copying src c =>
      obtain ⟨hrow, -, hcursor⟩ := h.1 i e hi
      have hcol : c < columns := by simpa [hp] using hcursor
      obtain ⟨col, hcol'⟩ := exists_finOf? hcol
      obtain ⟨sw, hsw⟩ := exists_wordAt (sourceRow_lt hrow src) hcol
      obtain ⟨tw, htw⟩ := exists_wordAt (spareRow_lt e.target) hcol
      exact ⟨_, grantCopy_eq hc hp hcol' hsw htw⟩

theorem exists_grantMigrate (a : ArrayNo) {s : State} (h : SteerOk s) : ∃ t, grantMigrate a s = some t := by
  cases hr : s.steerOf a with
  | normal => exact ⟨s, by simp only [grantMigrate, hr]⟩
  | steered k o => exact ⟨s, by simp only [grantMigrate, hr]⟩
  | migrating k c o =>
    obtain ⟨i, hi⟩ := exists_finOf? ((steerOk_iff s).mp h a k c o hr)
    exact ⟨_, grantMigrate_eq hr hi⟩

theorem exists_grantScrub (a : ArrayNo) {s : State} (h : ScrubOk s) : ∃ t, grantScrub a s = some t := by
  obtain ⟨-, hrow, hcol⟩ := h
  obtain ⟨w, hw⟩ := exists_wordAt (scrubRow_lt s a hrow) hcol
  exact ⟨_, grantScrub_eq hw⟩

theorem exists_grant (a : ArrayNo) (k : TurnKind) {s : State} (h : Inv s) : ∃ t, grant a k s = some t := by
  obtain ⟨-, -, -, hsubs, hsteer, hscrub, hqueue, hreads, -, -⟩ := h
  cases k with
  | hostRead => exact exists_grantHostRead a hreads
  | drain => exact exists_grantDrain a hqueue
  | peek =>
    show ∃ t, grantPeek a s = some t
    unfold grantPeek
    split <;> exact ⟨_, rfl⟩
  | copy => exact exists_grantCopy a hsubs
  | migrate => exact exists_grantMigrate a hsteer
  | fill =>
    show ∃ t, grantFill a s = some t
    unfold grantFill
    split <;> exact ⟨_, rfl⟩
  | scrub => exact exists_grantScrub a hscrub

/-- TURN_GRANT finds every word that the claim granted names (R28). -/
theorem exists_execTurnGrant (a : ArrayNo) {s : State} (h : Inv s) : ∃ t, execTurnGrant a s = .next t := by
  rcases execTurnGrant_cases a s with ⟨-, ht⟩ | ⟨k, t, -, -, ht⟩ | ⟨k, -, hnone, -⟩
  · exact ⟨s, ht⟩
  · exact ⟨t, ht⟩
  · obtain ⟨t, ht⟩ := exists_grant a k h
    rw [ht] at hnone
    cases hnone

/-! ## Grants keep the invariant (R32 to R34) -/

theorem grantsNothing_of_permits {p : PathState} {k : TurnKind} (h : permits p k = true) : p.grantsNothing = false := by
  cases hg : p.grantsNothing with
  | false => rfl
  | true => cases p <;> cases hg <;> cases h

theorem beginTurn_keeps (a : ArrayNo) (w : TurnWork) {s : State} (hg : s.path.path.grantsNothing = false) :
    Keeps s (beginTurn a w s) :=
  SameData.and_calm {} { still := fun hn => by rw [hg] at hn; cases hn }

theorem markInTurn_keeps (place : Nat) {s : State} (hg : s.path.path.grantsNothing = false) :
    Keeps s (markInTurn place s) :=
  KeepsData.and_calm { reads := fun h => markInTurn_readsOk h place, queue := queueOk_congr rfl rfl rfl }
    { still := fun hn => by rw [hg] at hn; cases hn }

theorem startDrain_keeps (w : BitVec 28) {s : State} (hg : s.path.path.grantsNothing = false) :
    Keeps s { s with queue := queueStartDrain s.queue w } :=
  KeepsData.and_calm { queue := fun h => queueStartDrain_queueOk h w }
    { still := fun hn => by rw [hg] at hn; cases hn }

theorem grantPeek_keeps {a : ArrayNo} {s t : State} (h : grantPeek a s = some t)
    (hg : s.path.path.grantsNothing = false) : Keeps s t := by
  unfold grantPeek at h
  split at h
  next q b w hl =>
    cases h
    have hgranted : Keeps s { s with link := { s.link with lock := some { seq := q, command := .peek b w true } } } :=
      SameData.and_calm {}
        { quiesce := by rw [quiesceWithheld, quiesceWithheld, hl]
          peek := nofun }
    exact hgranted.trans (beginTurn_keeps a _ hg)
  · cases h
    exact .refl s

theorem grant_keeps {a : ArrayNo} {k : TurnKind} {s t : State} (h : grant a k s = some t)
    (hg : s.path.path.grantsNothing = false) : Keeps s t := by
  cases k with
  | hostRead =>
    change grantHostRead a s = some t at h
    unfold grantHostRead at h
    split at h
    · cases h
      exact .refl s
    · split at h
      · cases h
        exact (beginTurn_keeps a _ hg).trans (markInTurn_keeps _ hg)
      · cases h
  | drain =>
    change grantDrain a s = some t at h
    unfold grantDrain at h
    split at h
    · cases h
      exact .refl s
    · dsimp only at h
      split at h
      · cases h
        exact (startDrain_keeps _ hg).trans (beginTurn_keeps a _ hg)
      · cases h
  | peek => exact grantPeek_keeps h hg
  | copy =>
    change grantCopy a s = some t at h
    unfold grantCopy at h
    split at h
    · cases h
      exact .refl s
    · split at h
      · cases h
        exact .refl s
      · split at h
        · cases h
          exact beginTurn_keeps a _ hg
        · cases h
  | migrate =>
    change grantMigrate a s = some t at h
    unfold grantMigrate at h
    split at h
    · cases h
      exact .refl s
    · cases h
      exact .refl s
    · split at h
      · cases h
        exact beginTurn_keeps a _ hg
      · cases h
  | fill =>
    change grantFill a s = some t at h
    unfold grantFill at h
    split at h
    · cases h
      exact .refl s
    · cases h
      exact beginTurn_keeps a _ hg
  | scrub =>
    change grantScrub a s = some t at h
    unfold grantScrub at h
    split at h
    · cases h
      exact Keeps.trans (SameData.and_calm {} {}) (beginTurn_keeps a _ hg)
    · cases h

theorem execTurnGrant_keeps {a : ArrayNo} {s t : State} (h : execTurnGrant a s = .next t) : Keeps s t := by
  rcases execTurnGrant_cases a s with ⟨-, ht⟩ | ⟨k, u, hk, hu, ht⟩ | ⟨k, -, -, ht⟩
  · cases ht.symm.trans h
    exact .refl s
  · cases ht.symm.trans h
    obtain ⟨-, hpermits, -⟩ := grantChoice_some hk
    exact grant_keeps hu (grantsNothing_of_permits hpermits)
  · cases ht.symm.trans h

end Sys2Proof.Machine
end

section
/-! SUPPORT. The completions of turns keep the invariant (R35 to R45). -/

namespace Sys2Proof.Machine

set_option Elab.async false

/-! ## The parts of a completion -/

theorem disturb_keepsAll (a : ArrayNo) (i : PhysIndex) (flips : Stored) (s : State) : Keeps s (disturb a i flips s) :=
  (disturb_keeps ..).and_calm (disturb_calm ..)

theorem setWord_keepsAll (a : ArrayNo) (i : PhysIndex) (w : Stored) (s : State) : Keeps s (s.setWord a i w) :=
  (setWord_keeps ..).and_calm {}

theorem setWords_keepsAll (a : ArrayNo) (w : Stored) (is : List PhysIndex) (s : State) : Keeps s (setWords a w is s) :=
  (setWords_keeps ..).and_calm (setWords_calm ..)

theorem repairWrite_keepsAll (a : ArrayNo) (i : PhysIndex) (r : SteerRecord) (d : Decoded) (s : State) :
    Keeps s (repairWrite a i r d s) := (repairWrite_keeps ..).and_calm (repairWrite_calm ..)

theorem report_keepsAll (a : ArrayNo) (i : PhysIndex) (g : Origin) (d : Decoded) (s : State) :
    Keeps s (report a i g d s) := (report_keeps ..).and_calm (report_calm ..)

theorem raise_keepsAll (f : AlertFlag) (s : State) : Keeps s (raise f s) := (raise_sameData ..).and_calm (raise_calm ..)

theorem endTurn_keeps (a : ArrayNo) (s : State) : Keeps s (endTurn a s) := SameData.and_calm {} (endTurn_calm a s)

/-! ## What each claimant makes of its turn -/

/-- The read answered leaves the list, and the part stays still if it was (R151). -/
theorem hostReadResult_keeps (place : Nat) (d : Decoded) (s : State) : Keeps s (hostReadResult place d s) := by
  unfold hostReadResult
  split
  · exact .refl s
  · refine KeepsData.and_calm { reads := fun h => readsOk_of_sublist h List.filter_sublist rfl le_rfl } {
      still := fun _ => still_of id (fun hr => ?_) rfl fun _ => id }
    show s.port.reads.filter _ = []
    rw [hr, List.filter_nil]

/-- The entry drained leaves the queue, and the part stays still if it was (R137). -/
theorem drainResult_keeps (w : BitVec 28) (s : State) : Keeps s (drainResult w s) := by
  refine KeepsData.and_calm { queue := fun h => queueRemove_queueOk h w } {
    still := fun _ => still_of (fun hq => ?_) id rfl fun _ => id }
  show s.queue.filter _ = []
  rw [hq, List.filter_nil]

/-- A PEEK answered is one that no longer waits (R45, R187). -/
theorem answerPeek_keeps (result : List Byte) (s : State) : Keeps s (answerPeek result s) := by
  refine (answerPeek_sameData result s).and_calm ?_
  unfold answerPeek
  split
  next hl =>
    exact { quiesce := by rw [quiesceWithheld_of_no_lock (rfl : (unlock _).link.lock = none), quiesceWithheld, hl]
            peek := nofun }
  · exact .refl s

theorem completeCopy_calm (i : Fin 32) (e : SubEntry) (src : CopySource) (s : State) :
    Calm s (completeCopy i e src s) := by
  have hretire : Calm s (retireSource e.array src (setEntry i (some { e with phase := .active }) s)) := by
    cases src <;> exact {}
  exact (Calm.trans hretire {}).trans (raise_calm ..)

theorem copyResult_calm (h : CopyHand) (s : State) : Calm s (copyResult h s) := by
  unfold copyResult
  split
  · exact .refl s
  · split
    · exact .refl s
    · split
      · exact .refl s
      · split
        · exact completeCopy_calm ..
        · exact {}

theorem migrateResult_calm (a : ArrayNo) (i : PhysIndex) (void : Bool) (s : State) :
    Calm s (migrateResult a i void s) := by
  unfold migrateResult
  split
  · exact .refl s
  · split
    · exact .refl s
    · exact .refl s
    · split
      · exact Calm.trans {} (raise_calm ..)
      · exact {}

/-- The fill completion notice moves FILLING to SETUP, and elsewhere at most the resume state of a path state that has none
of its own (R157, R161). -/
theorem fillNotice_pathOk {s : State} (h : PathOk s) : PathOk (fillNotice s) := by
  unfold fillNotice
  split
  next hp =>
    have hquiesce : quiesceWithheld s = false := quiesce_of_pathOk h (by rw [hp]; nofun)
    have hwait : s.port.waiting = none := waiting_none_of_pathOk h (by rw [hp]; nofun) (by rw [hp]; nofun)
    have hwarn : s.supplyWarning = false :=
      warning_of_pathOk h (by rw [hp]; nofun) (by rw [hp]; nofun) (by rw [hp]; nofun)
    have hret : s.path.retentionExit = false := retention_of_pathOk h (by rw [hp]; nofun)
    refine pathOk_of_resumable rfl hquiesce (fun hw => ?_) hwarn hret
    have hw : s.port.waiting.isSome = true := hw
    rw [hwait] at hw
    cases hw
  next hp => exact Calm.pathOk { resume := .inr (by simp [hp]) } h
  next hp => exact Calm.pathOk { resume := .inr (by simp [hp]) } h
  all_goals exact h

theorem fillResult_keeps (a : ArrayNo) (i : PhysIndex) (void : Bool) (s : State) : Keeps s (fillResult a i void s) := by
  refine { (fillResult_sameData a i void s).keeps with path := fun hs => ?_ }
  unfold fillResult
  split
  · exact hs
  · split
    · exact Calm.pathOk {} hs
    · exact fillNotice_pathOk (Calm.pathOk (Calm.trans {} (raise_calm ..)) hs)

theorem completePass_calm (s : State) : Calm s (completePass s) := by
  have haged : Calm s { s with
      map := s.map.aged s.scrub.pass
      scrub := { s.scrub with pass := s.scrub.pass + 1 } } := {}
  exact (haged.trans (raise_calm ..)).trans {}

theorem advanceCursor_calm (s : State) : Calm s (advanceCursor s) := by
  unfold advanceCursor
  split
  · exact {}
  · split
    · exact {}
    · exact completePass_calm s

theorem scrubResult_calm (leftSet : Bool) (s : State) : Calm s (scrubResult leftSet s) := by
  unfold scrubResult
  split
  · exact .refl s
  · exact advanceCursor_calm s

/-! ## The rows -/

variable {a : ArrayNo} {flips : Stored} {s t : State}

theorem execHostReadComplete_keeps (h : execHostReadComplete a flips s = .next t) : Keeps s t := by
  cases Host.Outcome.next.inj h
  split
  next place i repair r _ =>
    unfold completeHostRead
    dsimp only
    refine (((disturb_keepsAll a i flips s).trans ?_).trans (report_keepsAll ..)).trans
      ((endTurn_keeps ..).trans (hostReadResult_keeps ..))
    split
    · exact repairWrite_keepsAll ..
    · exact .refl _
  · exact .refl s

theorem drainFull_keeps (r : SteerRecord) (data : Data) (poisoned : Bool) (ws : List PhysIndex) :
    Keeps s (drainFull a r data poisoned ws s) := setWords_keepsAll ..

theorem drainPartial_keeps (r : SteerRecord) (data : Data) (mask : Byte) (poisoned : Bool) (rw : PhysIndex)
    (ws : List PhysIndex) : Keeps s (drainPartial a r data mask poisoned rw ws flips s) :=
  ((disturb_keepsAll a rw flips s).trans (setWords_keepsAll ..)).trans (report_keepsAll ..)

theorem execDrainComplete_keeps (h : execDrainComplete a flips s = .next t) : Keeps s t := by
  cases Host.Outcome.next.inj h
  split
  · refine Keeps.trans ?_ ((endTurn_keeps ..).trans (drainResult_keeps ..))
    split
    · exact drainFull_keeps ..
    · exact drainPartial_keeps ..
  · exact .refl s

theorem execPeekTurnComplete_keeps (h : execPeekTurnComplete a flips s = .next t) : Keeps s t := by
  cases Host.Outcome.next.inj h
  split
  · exact (disturb_keepsAll ..).trans ((endTurn_keeps ..).trans (answerPeek_keeps ..))
  · exact .refl s

/-- A word read, another written over it or elsewhere, and what was read reported (R39, R40). -/
theorem rewriteTurn_keeps (i j : PhysIndex) (w : Stored) (g : Origin) (d : Decoded) :
    Keeps s (report a i g d ((disturb a i flips s).setWord a j w)) :=
  (disturb_keepsAll ..).trans ((setWord_keepsAll ..).trans (report_keepsAll ..))

theorem execCopyTurnComplete_keeps (h : execCopyTurnComplete a flips s = .next t) : Keeps s t := by
  cases Host.Outcome.next.inj h
  split
  · dsimp only
    split
    · exact (rewriteTurn_keeps ..).trans
        ((endTurn_keeps ..).trans ((copyResult_keeps ..).and_calm (copyResult_calm ..)))
    · exact (rewriteTurn_keeps ..).trans (endTurn_keeps ..)
  · exact .refl s

theorem execMigrateTurnComplete_keeps (h : execMigrateTurnComplete a flips s = .next t) : Keeps s t := by
  cases Host.Outcome.next.inj h
  split
  · exact (rewriteTurn_keeps ..).trans
      ((endTurn_keeps ..).trans ((migrateResult_keeps ..).and_calm (migrateResult_calm ..)))
  · exact .refl s

theorem execFillTurnComplete_keeps (h : execFillTurnComplete a s = .next t) : Keeps s t := by
  cases Host.Outcome.next.inj h
  split
  · exact (setWord_keepsAll ..).trans ((endTurn_keeps ..).trans (fillResult_keeps ..))
  · exact .refl s

theorem execScrubTurnComplete_keeps (h : execScrubTurnComplete a flips s = .next t) : Keeps s t := by
  cases Host.Outcome.next.inj h
  split
  · exact ((disturb_keepsAll ..).trans ((repairWrite_keepsAll ..).trans (report_keepsAll ..))).trans
      ((endTurn_keeps ..).trans ((scrubResult_keeps ..).and_calm (scrubResult_calm ..)))
  · exact .refl s

theorem execScrubIntervalExpiry_keeps (h : execScrubIntervalExpiry s = .next t) : Keeps s t := by
  cases Host.Outcome.next.inj h
  split
  · exact .refl s
  · exact SameData.and_calm {} {}

end Sys2Proof.Machine
end

section
/-! SUPPORT. The commands of the maintenance link keep the invariant, executed under no lock (R185 to R192). -/

namespace Sys2Proof.Machine

set_option Elab.async false

/-! ## Answers -/

theorem respond_keeps (r : Response) (s : State) : Keeps s (respond r s) := SameData.and_calm {} {}

theorem reply_keeps (q : Byte) (st : LinkStatus) (b : List Byte) (s : State) : Keeps s (reply q st b s) :=
  SameData.and_calm {} {}

/-- An effect that keeps the invariant, answered. -/
theorem Keeps.reply {s t : State} (h : Keeps s t) (q : Byte) (st : LinkStatus) (b : List Byte) :
    Keeps s (reply q st b t) := h.trans (reply_keeps q st b t)

variable {q : Byte} {args : List Byte} {s : State}

/-! ## Parameters (R16, R192) -/

theorem paramRange_cases {id v : Nat} (h : paramRange id v = true) :
    (id = 1 ∧ 1 ≤ v ∧ v ≤ 15) ∨ (id = 2 ∧ 1 ≤ v ∧ v ≤ 8) ∨ (id = 3 ∧ 1 ≤ v ∧ v ≤ 16) ∨ (id = 4 ∧ v ≤ 1) ∨
    (id = 5 ∧ v ≤ 1) ∨ (id = 6 ∧ v ≤ 1) ∨ (id = 7 ∧ v ≤ 65535) ∨ (id = 8 ∧ 1 ≤ v ∧ v ≤ 16) := by
  unfold paramRange at h
  split at h <;> simp_all

/-- New parameters with the same ARRAYS, each in its range. -/
theorem withParams_keeps {p : Params} (ha : p.arrays = s.params.arrays) (hp : ParamsOk s.params → ParamsOk p) :
    Keeps s { s with params := p } := by
  refine KeepsData.and_calm { params := hp, scrub := fun h => ?_, queue := fun h => queueOk_mono h rfl ha le_rfl,
                              reads := fun h => readsOk_of_sublist h (List.Sublist.refl _) ha le_rfl }
    { still := fun _ => still_of id id ha fun _ => id }
  simpa only [ScrubOk, installed, ha] using h

theorem setScrubInterval_keeps {v : Nat} (hv : v ≤ 65535) : Keeps s (setScrubInterval v s) :=
  (withParams_keeps (p := { s.params with scrubInterval := v }) rfl
    fun ⟨h1, h2, h3, _, h5⟩ => ⟨h1, h2, h3, hv, h5⟩).trans (SameData.and_calm {} {})

theorem setParam_keeps {id v : Nat} (h : paramRange id v = true) : Keeps s (setParam id v s) := by
  rcases paramRange_cases h with ⟨rfl, hv⟩ | ⟨rfl, hv⟩ | ⟨rfl, hv⟩ | ⟨rfl, -⟩ | ⟨rfl, -⟩ | ⟨rfl, -⟩ | ⟨rfl, hv⟩ | ⟨rfl, hv⟩
  · exact withParams_keeps rfl fun ⟨_, hrest⟩ => ⟨hv, hrest⟩
  · exact withParams_keeps rfl fun ⟨h1, _, hrest⟩ => ⟨h1, hv, hrest⟩
  · exact withParams_keeps rfl fun ⟨h1, h2, _, hrest⟩ => ⟨h1, h2, hv, hrest⟩
  · exact withParams_keeps rfl id
  · exact withParams_keeps rfl id
  · exact withParams_keeps rfl id
  · exact setScrubInterval_keeps hv
  · exact withParams_keeps rfl fun ⟨h1, h2, h3, h4, _⟩ => ⟨h1, h2, h3, h4, hv⟩

/-- The cursor is on an installed array once it has been rescued (R119). -/
theorem rescueCursor_scrubOk (h : s.scrub.cursor.row < physRows ∧ s.scrub.cursor.column < columns) :
    ScrubOk (rescueCursor s) := by
  unfold rescueCursor
  split
  next hi => exact ⟨hi, h⟩
  next => exact firstPosition_ok s

theorem setArrays_frame (n : ArrayCount) (s : State) : setArrays n s =
    { markLeftTurns { s with params := { s.params with arrays := n } } with scrub := (setArrays n s).scrub } := by
  unfold setArrays rescueCursor
  split <;> rfl

/-- ARRAYS set in SETUP with nothing queued and no read outstanding: the scrub cursor is brought back to an installed array
(R16, R119). -/
theorem setArrays_keeps (n : ArrayCount) (hp : s.path.path = .setup) (hq : s.queue = []) (hr : s.port.reads = []) :
    Keeps s (setArrays n s) := by
  have hgrants : s.path.path.grantsNothing = true → still s = true → still (setArrays n s) = true := by
    rw [hp]
    nofun
  have hqueue (t : State) (ht : t.queue = s.queue) : QueueOk t := by
    rw [hq] at ht
    simp [QueueOk, ht]
  have hreads (t : State) (ht : t.port.reads = s.port.reads) : ReadsOk t := by
    rw [hr] at ht
    simp [ReadsOk, ht]
  have hscrub (h : ScrubOk s) : ScrubOk (setArrays n s) := rescueCursor_scrubOk h.2
  rw [setArrays_frame] at hgrants hscrub ⊢
  exact KeepsData.and_calm { scrub := hscrub, queue := fun _ => hqueue _ rfl, reads := fun _ => hreads _ rfl }
    { still := hgrants }

theorem doSetArrays_keeps (q : Byte) (v : Nat) (s : State) : Keeps s (doSetArrays q v s) := by
  unfold doSetArrays
  split
  next h =>
    obtain ⟨hp, hq, hr⟩ := h
    split
    · exact (setArrays_keeps _ hp hq hr).reply ..
    · exact reply_keeps ..
  · exact reply_keeps ..

theorem doSetParam_keeps : Keeps s (doSetParam q args s) := by
  unfold doSetParam
  split
  · exact doSetArrays_keeps ..
  · split
    next h => exact (setParam_keeps h).reply ..
    · exact reply_keeps ..

theorem doGetParam_keeps : Keeps s (doGetParam q args s) := by
  unfold doGetParam
  split <;> exact reply_keeps ..

/-! ## Path commands (R161, R162, R165, R169) -/

/-- A move from one resume state to another (R161). -/
theorem changePath_resumable_keeps {p : PathState} (hp : Resumable p) (hs : Resumable s.path.path) :
    Keeps s (changePath p s) := by
  have hne : p ≠ .hold := by
    rcases hp with rfl | rfl | rfl <;> nofun
  refine { changePath_keeps hne s with path := fun h => changePath_pathOk hp ?_ ?_ ?_ }
  · refine quiesce_of_pathOk h ?_
    rcases hs with hs | hs | hs <;> rw [hs] <;> nofun
  · refine warning_of_pathOk h ?_ ?_ ?_ <;> rcases hs with hs | hs | hs <;> rw [hs] <;> nofun
  · refine retention_of_pathOk h ?_
    rcases hs with hs | hs | hs <;> rw [hs] <;> nofun

theorem doOpen_keeps : Keeps s (doOpen q args s) := by
  unfold doOpen
  split
  next hp => exact (changePath_resumable_keeps (.inr (.inr rfl)) (.inl hp)).reply ..
  all_goals exact reply_keeps ..

theorem doClose_keeps : Keeps s (doClose q args s) := by
  unfold doClose
  split
  next hp => exact (changePath_resumable_keeps (.inl rfl) (.inr (.inr hp))).reply ..
  all_goals exact reply_keeps ..

theorem doFill_keeps : Keeps s (doFill q args s) := by
  unfold doFill
  split
  next hp =>
    exact ((changePath_resumable_keeps (.inr (.inl rfl)) (.inl hp)).trans (SameData.and_calm {} {})).reply ..
  all_goals exact reply_keeps ..

/-- QUIESCE accepted: ENTERING-QUIET under its lock (R162). -/
theorem quiesceAccepted_keeps (q : Byte) (hp : s.path.path = .opened) :
    Keeps s (changePath .enteringQuiet
      { s with link := { s.link with lock := some { seq := q, command := .quiesce } } }) := by
  refine { KeepsData.trans (SameData.keeps {}) (changePath_keeps (by decide) _) with
    path := fun hs => weighWaiting_pathOk ?_ }
  have hwarn : s.supplyWarning = false :=
    warning_of_pathOk hs (by rw [hp]; nofun) (by rw [hp]; nofun) (by rw [hp]; nofun)
  have hret : s.path.retentionExit = false := retention_of_pathOk hs (by rw [hp]; nofun)
  exact pathOk_of_enteringQuiet rfl rfl rfl rfl hwarn hret

theorem doQuiesce_keeps : Keeps s (doQuiesce q args s) := by
  unfold doQuiesce
  split
  next hp =>
    split
    · exact Keeps.reply (SameData.and_calm {} {}) ..
    · exact quiesceAccepted_keeps q hp
  all_goals exact reply_keeps ..

theorem beginWake_keeps (hp : s.path.path = .quiet) : Keeps s (beginWake s) :=
  (beginWake_sameData s).and_calm (beginWake_calm hp)

theorem doWake_keeps : Keeps s (doWake q args s) := by
  unfold doWake
  split
  next hp => exact (beginWake_keeps hp).reply ..
  all_goals exact reply_keeps ..

theorem resumeSetup_keeps (hp : ¬Resumable s.path.path) : Keeps s (resumeSetup s) :=
  SameData.and_calm {} { resume := .inr hp }

theorem restartPath_keeps (s : State) : Keeps s (restartPath s) := by
  unfold restartPath
  split
  next hp => exact changePath_resumable_keeps (.inl rfl) (.inl hp)
  next hp => exact changePath_resumable_keeps (.inl rfl) (.inr (.inl hp))
  next hp => exact changePath_resumable_keeps (.inl rfl) (.inr (.inr hp))
  next hp => exact (resumeSetup_keeps (by simp [hp])).trans (beginWake_keeps hp)
  all_goals
    rename_i hp
    exact resumeSetup_keeps (by simp [hp])

/-- The parameters of a RESTART: the defaults, but for ARRAYS (R169). -/
theorem restartParams_keeps (s : State) : Keeps s (restartParams s) :=
  (withParams_keeps (p := { Params.default with arrays := s.params.arrays }) rfl fun _ => default_paramsOk).trans
    (setScrubInterval_keeps (Nat.zero_le _))

theorem discardReads_keepsAll (s : State) : Keeps s (discardReads s) :=
  (discardReads_keeps s).and_calm { still := fun _ => still_of id (fun _ => rfl) rfl fun _ => id }

theorem abandonFill_keeps (s : State) : Keeps s (abandonFill s) := by
  refine SameData.and_calm {} { still := fun _ => still_of id id rfl fun a h => ?_ }
  have hget : (abandonFill s).turn a = (s.turn a).map fun t => { t with work := t.work.voidFill } := by
    simp [abandonFill, State.turn, get_eq]
  rw [hget, h]
  rfl

theorem restartEffects_keeps (s : State) : Keeps s (restartEffects s) := by
  have hcleared : Keeps s (restartParams (abandonFill (discardReads s))) :=
    ((discardReads_keepsAll s).trans (abandonFill_keeps _)).trans (restartParams_keeps _)
  exact (hcleared.trans (SameData.and_calm {} {})).trans (restartPath_keeps _)

theorem doRestart_keeps : Keeps s (doRestart q args s) := (reply_keeps ..).trans (restartEffects_keeps _)

theorem doClearCauses_keeps : Keeps s (doClearCauses q args s) := Keeps.reply (SameData.and_calm {} {}) ..

/-! ## Alert commands and PEEK (R44, R176, R177) -/

theorem changeAlert_keeps (u : AlertUnit) (s : State) : Keeps s (changeAlert u s) :=
  (changeAlert_sameData u s).and_calm (changeAlert_calm u s)

theorem doClearFlags_keeps : Keeps s (doClearFlags q args s) := (changeAlert_keeps ..).reply ..

theorem doSetEnables_keeps : Keeps s (doSetEnables q args s) := (changeAlert_keeps ..).reply ..

theorem acceptPeek_keeps (q : Byte) (a : ArrayNo) (w : PhysIndex) (hl : s.link.lock = none)
    (hp : Resumable s.path.path) : Keeps s (acceptPeek q a w s) :=
  SameData.and_calm {}
    { quiesce := by rw [quiesceWithheld_of_no_lock hl]; rfl
      peek := fun _ => .inr hp }

theorem doPeek_keeps (hl : s.link.lock = none) : Keeps s (doPeek q args s) := by
  unfold doPeek
  split
  iterate 3
    next hp =>
      split
      · exact acceptPeek_keeps _ _ _ hl (by simp [Resumable, hp])
      · exact reply_keeps ..
  all_goals exact reply_keeps ..

/-! ## Map commands (R69 to R71) -/

theorem withMap_keepsAll {m : FaultMap} (h : MapOk s.map → MapOk m) : Keeps s { s with map := m } :=
  (withMap_keeps s h).and_calm {}

theorem doMapRead_keeps : Keeps s (doMapRead q args s) := by
  unfold doMapRead
  split
  · exact reply_keeps ..
  · split <;> exact reply_keeps ..

theorem doMapDelete_keeps : Keeps s (doMapDelete q args s) := by
  unfold doMapDelete
  split
  · exact reply_keeps ..
  · split
    · exact reply_keeps ..
    · exact (withMap_keepsAll fun h => removeSlot_mapOk h _).reply ..

theorem doMapPurge_keeps : Keeps s (doMapPurge q args s) := (withMap_keepsAll fun _ => emptied_mapOk).reply ..

/-! ## Row commands (R87 to R92) -/

theorem doCondemnRow_keeps : Keeps s (doCondemnRow q args s) := by
  unfold doCondemnRow
  split
  iterate 2
    next =>
      split
      · split
        · exact ((condemnRowEngine_keeps ..).and_calm (condemnRowEngine_calm ..)).reply ..
        · exact reply_keeps ..
      · exact reply_keeps ..
  all_goals exact reply_keeps ..

theorem cancelCopy_keeps {i : Fin 32} {e : SubEntry} (hi : s.subs.table.get i = some e) {src : CopySource} {c : Nat}
    (hphase : e.phase = .copying src c) : Keeps s (cancelCopy i e src s) := by
  have hcalm : Calm s (cancelCopy i e src s) := (mapTurn_calm ..).trans {}
  refine KeepsData.and_calm { (mapTurn_sameData e.array (TurnWork.voidCopy i) s).keeps with subs := fun hs => ?_ } hcalm
  refine givenUp_subsOk hs hi hphase (st := .free) nofun (by simp) fun a p => ?_
  rw [spare_setSpare, spare_voidCopy]

theorem doSubCancel_keeps : Keeps s (doSubCancel q args s) := by
  unfold doSubCancel
  split
  · exact reply_keeps ..
  · split
    · exact reply_keeps ..
    next hi =>
      split
      · exact reply_keeps ..
      next hphase => exact (cancelCopy_keeps hi hphase).reply ..

theorem loadArgs_some {a : ArrayNo} {row : Nat} {p : SpareNo} (h : loadArgs s args = some (a, row, p)) :
    row < hostRows ∧ s.spare a p = .free ∧ entryFor s a row = none := by
  unfold loadArgs at h
  split at h
  · split at h
    next hh =>
      cases h
      obtain ⟨hrow, hfree, hnone⟩ := hh
      exact ⟨hrow, hfree, Option.isNone_iff_eq_none.mp hnone⟩
    · cases h
  · cases h

theorem doSubLoad_keeps : Keeps s (doSubLoad q args s) := by
  unfold doSubLoad
  split
  · split
    · exact reply_keeps ..
    next hargs =>
      obtain ⟨hrow, hfree, hfor⟩ := loadArgs_some hargs
      split
      · exact reply_keeps ..
      next hentry =>
        refine Keeps.reply (KeepsData.and_calm { subs := fun hs => ?_ } {}) ..
        exact newEntry_subsOk hs (freeEntry_some hentry) hfree hrow hfor (.inl rfl)
  all_goals exact reply_keeps ..

theorem doSpareRetire_keeps : Keeps s (doSpareRetire q args s) := by
  unfold doSpareRetire
  split
  · split
    · exact reply_keeps ..
    next hfree => exact Keeps.reply (KeepsData.and_calm { subs := fun hs => retireFree_subsOk hs hfree } {}) ..
    · exact reply_keeps ..
  · exact reply_keeps ..

theorem doSubRead_keeps : Keeps s (doSubRead q args s) := by
  unfold doSubRead
  split
  · exact reply_keeps ..
  · split <;> exact reply_keeps ..

theorem doSpareRead_keeps : Keeps s (doSpareRead q args s) := by
  unfold doSpareRead
  split <;> exact reply_keeps ..

/-! ## Lane commands (R106 to R109) -/

theorem condemnCodedLane_calm (auto : Bool) (a : ArrayNo) (k : CodedLane) (s : State) :
    Calm s (condemnCodedLane auto a k s).1 := by
  unfold condemnCodedLane
  split
  · split
    · exact .refl s
    · exact {}
  · split
    · exact .refl s
    · split
      · exact .refl s
      · exact raise_calm ..

theorem doCondemnLane_keeps : Keeps s (doCondemnLane q args s) := by
  unfold doCondemnLane
  split
  iterate 2
    next =>
      split
      · exact ((condemnCodedLane_keeps ..).and_calm (condemnCodedLane_calm ..)).reply ..
      · exact reply_keeps ..
  all_goals exact reply_keeps ..

theorem cancelMigration_keepsAll (a : ArrayNo) (s : State) : Keeps s (cancelMigration a s) :=
  (cancelMigration_keeps a s).and_calm (Calm.trans (t := setSteer a .normal s) {} (mapTurn_calm ..))

theorem doLaneCancel_keeps : Keeps s (doLaneCancel q args s) := by
  unfold doLaneCancel
  split
  · exact reply_keeps ..
  · split
    · exact reply_keeps ..
    · exact reply_keeps ..
    · exact (cancelMigration_keepsAll ..).reply ..

theorem doLaneLoad_keeps : Keeps s (doLaneLoad q args s) := by
  unfold doLaneLoad
  split
  · split
    · split
      · exact ((setSteer_keeps _ (steerRecordOk_steered _ _) s).and_calm {}).reply ..
      · exact reply_keeps ..
    · exact reply_keeps ..
  all_goals exact reply_keeps ..

theorem doLaneRead_keeps : Keeps s (doLaneRead q args s) := by
  unfold doLaneRead
  split <;> exact reply_keeps ..

end Sys2Proof.Machine
end

section
/-! SUPPORT. What arrives on the command line keeps the invariant (R179 to R189), and so does every step; the statements on
steps. -/

namespace Sys2Proof.Machine

set_option Elab.async false

/-! ## A frame dealt with (R183, R185, R186, R189) -/

theorem commandEffect_keeps (c : LinkCommand) (q : Byte) (args : List Byte) {s : State} (hl : s.link.lock = none) :
    Keeps s (commandEffect c q args s) := by
  cases c with
  | status => exact reply_keeps ..
  | getParam => exact doGetParam_keeps
  | setParam => exact doSetParam_keeps
  | openPort => exact doOpen_keeps (args := args)
  | closePort => exact doClose_keeps (args := args)
  | fill => exact doFill_keeps (args := args)
  | quiesce => exact doQuiesce_keeps (args := args)
  | wake => exact doWake_keeps (args := args)
  | restart => exact doRestart_keeps (args := args)
  | readCauses => exact reply_keeps ..
  | clearCauses => exact doClearCauses_keeps
  | clearFlags => exact doClearFlags_keeps
  | setEnables => exact doSetEnables_keeps
  | peek => exact doPeek_keeps hl
  | mapRead => exact doMapRead_keeps
  | mapDelete => exact doMapDelete_keeps
  | mapPurge => exact doMapPurge_keeps (args := args)
  | condemnRow => exact doCondemnRow_keeps
  | subCancel => exact doSubCancel_keeps
  | subLoad => exact doSubLoad_keeps
  | spareRetire => exact doSpareRetire_keeps
  | subRead => exact doSubRead_keeps
  | spareRead => exact doSpareRead_keeps
  | condemnLane => exact doCondemnLane_keeps
  | laneCancel => exact doLaneCancel_keeps
  | laneLoad => exact doLaneLoad_keeps
  | laneRead => exact doLaneRead_keeps
  | scrubRead => exact reply_keeps ..

theorem executeCommand_keeps (c : LinkCommand) (q : Byte) (args : List Byte) {s : State} (hl : s.link.lock = none) :
    Keeps s (executeCommand c (commandEffect c) q args s) := by
  unfold executeCommand
  split
  · exact reply_keeps ..
  · exact commandEffect_keeps c q args hl

/-- A good frame is executed only under no lock (R185). -/
theorem dealGood_keeps {q : Byte} {execute : State → State} {s : State}
    (h : s.link.lock = none → Keeps s (execute s)) : Keeps s (dealGood q execute s) := by
  unfold dealGood
  split
  · exact respond_keeps ..
  next hl =>
    split
    · split
      · exact respond_keeps ..
      · exact h hl
    · exact h hl

theorem rejectFrame_keeps (q : Byte) (s : State) : Keeps s (rejectFrame q s) :=
  (respond_keeps ..).trans (raise_keepsAll ..)

/-! ## The receiver (R179, R181, R182, R188) -/

theorem setReceiver_keeps {r : Receiver} {s : State} (h : ReceiverOk s → ReceiverOk (setReceiver r s)) :
    Keeps s (setReceiver r s) := KeepsData.and_calm { receiver := h } {}

theorem awaitMarker_keeps (s : State) : Keeps s (setReceiver .awaitMarker s) := setReceiver_keeps fun _ => ⟨fun _ => rfl, rfl⟩

theorem frameArrives_keeps {q code : Byte} {args : List Byte} {next : State → State} (s : State)
    (h : ∀ u, Keeps u (next u)) : Keeps s (frameArrives q code args next s) := by
  unfold frameArrives
  split
  · exact (awaitMarker_keeps s).trans (h _)
  · exact .refl s

theorem completeFrame_keeps (gathered : List Byte) (check : Byte) (s : State) : Keeps s (completeFrame gathered check s) := by
  unfold completeFrame
  split
  next q code args =>
    split
    · refine dealGood_keeps fun hl => ?_
      cases LinkCommand.ofCode code with
      | some c => exact executeCommand_keeps c q args hl
      | none => exact reply_keeps ..
    · exact rejectFrame_keeps ..
  · exact .refl s

theorem frameByte_keeps {g : List Byte} (b : Byte) {s : State} (hp : s.path.path ≠ .hold)
    (hr : s.link.receiver = .inFrame g) : Keeps s (frameByte g b s) := by
  unfold frameByte
  split
  · split
    next hgood => exact setReceiver_keeps fun _ => ⟨fun h => absurd h hp, by simpa [setReceiver] using hgood⟩
    · exact setReceiver_keeps fun _ => ⟨fun h => absurd h hp, rfl⟩
  next l rest =>
    split
    next hlen =>
      refine setReceiver_keeps fun hs => ⟨fun h => absurd h hp, ?_⟩
      have hgood := hs.2
      rw [hr] at hgood
      simp only [Bool.and_eq_true] at hgood
      simpa [setReceiver, hgood.1] using hlen
    · exact (awaitMarker_keeps s).trans (completeFrame_keeps ..)

theorem takeByte_keeps (b : Byte) (s : State) : Keeps s (takeByte b s) := by
  unfold takeByte
  split
  · exact .refl s
  next hp =>
    split
    · split
      · exact setReceiver_keeps fun _ => ⟨fun h => absurd h hp, rfl⟩
      · exact .refl s
    next hr => exact frameByte_keeps b hp hr
    · exact .refl s

/-! ## The rows of the command line -/

theorem commandRow_keeps {c : LinkCommand} {q : Byte} {args : List Byte} {s t : State}
    (h : commandRow c (commandEffect c) q args s = .next t) : Keeps s t := by
  cases Host.Outcome.next.inj h
  exact frameArrives_keeps s fun u => dealGood_keeps fun hl => executeCommand_keeps c q args hl

theorem execUnknown_keeps {q code : Byte} {args : List Byte} {s t : State} (h : execUnknown q code args s = .next t) :
    Keeps s t := by
  cases Host.Outcome.next.inj h
  split
  · exact .refl s
  · exact frameArrives_keeps s fun u => dealGood_keeps fun _ => reply_keeps ..

theorem execLinkReject_keeps {q code : Byte} {args : List Byte} {check : Byte} {s t : State}
    (h : execLinkReject q code args check s = .next t) : Keeps s t := by
  cases Host.Outcome.next.inj h
  split
  · exact .refl s
  · exact frameArrives_keeps s fun u => rejectFrame_keeps q u

theorem execByteArrives_keeps {b : Byte} {s t : State} (h : execByteArrives b s = .next t) : Keeps s t := by
  cases Host.Outcome.next.inj h
  exact takeByte_keeps b s

theorem execLinkGapTimeout_keeps {s t : State} (h : execLinkGapTimeout s = .next t) : Keeps s t := by
  cases Host.Outcome.next.inj h
  split
  · split
    · exact .refl s
    · exact (awaitMarker_keeps s).trans (raise_keepsAll ..)
  · exact .refl s
  · exact .refl s

theorem execDiscardingTimeout_keeps {s t : State} (h : execDiscardingTimeout s = .next t) : Keeps s t := by
  cases Host.Outcome.next.inj h
  split
  · split
    · exact .refl s
    · exact (awaitMarker_keeps s).trans (raise_keepsAll ..)
  · exact .refl s
  · exact .refl s

theorem execResponseSent_keeps {s t : State} (h : execResponseSent s = .next t) : Keeps s t := by
  cases Host.Outcome.next.inj h
  exact SameData.and_calm {} {}

/-! ## Every command, every step -/

/-- Every command keeps every block's invariant. -/
theorem exec_keeps {c : Instr} {s t : State} (h : exec c s = .next t) : Keeps s t := by
  cases c with
  | powerOn => exact execPowerOn_keeps h
  | supplyDip => exact execSupplyDip_keeps h
  | holdEnd => exact execHoldEnd_keeps h
  | busResetAsserted => exact execBusResetAsserted_keeps h
  | busResetReleased => exact execBusResetReleased_keeps h
  | supplyWarningAsserted => exact execSupplyWarningAsserted_keeps h
  | supplyWarningReleased => exact execSupplyWarningReleased_keeps h
  | retentionExitEnd => exact execRetentionExitEnd_keeps h
  | wakeEnd => exact execWakeEnd_keeps h
  | quietEntryComplete => exact execQuietEntryComplete_keeps h
  | drainToFrozen => exact execDrainToFrozen_keeps h
  | readRequest tag addr => exact execReadRequest_keeps h
  | writeRequest addr mask data parity => exact execWriteRequest_keeps h
  | requestWeighedAgain => exact execRequestWeighedAgain_keeps h
  | turnGrant a => exact execTurnGrant_keeps h
  | hostReadComplete a flips => exact execHostReadComplete_keeps h
  | drainComplete a flips => exact execDrainComplete_keeps h
  | peekTurnComplete a flips => exact execPeekTurnComplete_keeps h
  | copyTurnComplete a flips => exact execCopyTurnComplete_keeps h
  | migrateTurnComplete a flips => exact execMigrateTurnComplete_keeps h
  | fillTurnComplete a => exact execFillTurnComplete_keeps h
  | scrubTurnComplete a flips => exact execScrubTurnComplete_keeps h
  | scrubIntervalExpiry => exact execScrubIntervalExpiry_keeps h
  | linkGapTimeout => exact execLinkGapTimeout_keeps h
  | discardingTimeout => exact execDiscardingTimeout_keeps h
  | linkReject q code args check => exact execLinkReject_keeps h
  | unknown q code args => exact execUnknown_keeps h
  | byteArrives b => exact execByteArrives_keeps h
  | responseSent => exact execResponseSent_keeps h
  | status q args => exact commandRow_keeps (c := .status) h
  | getParam q args => exact commandRow_keeps (c := .getParam) h
  | setParam q args => exact commandRow_keeps (c := .setParam) h
  | openPort q args => exact commandRow_keeps (c := .openPort) h
  | closePort q args => exact commandRow_keeps (c := .closePort) h
  | fill q args => exact commandRow_keeps (c := .fill) h
  | quiesce q args => exact commandRow_keeps (c := .quiesce) h
  | wake q args => exact commandRow_keeps (c := .wake) h
  | restart q args => exact commandRow_keeps (c := .restart) h
  | readCauses q args => exact commandRow_keeps (c := .readCauses) h
  | clearCauses q args => exact commandRow_keeps (c := .clearCauses) h
  | clearFlags q args => exact commandRow_keeps (c := .clearFlags) h
  | setEnables q args => exact commandRow_keeps (c := .setEnables) h
  | peek q args => exact commandRow_keeps (c := .peek) h
  | mapRead q args => exact commandRow_keeps (c := .mapRead) h
  | mapDelete q args => exact commandRow_keeps (c := .mapDelete) h
  | mapPurge q args => exact commandRow_keeps (c := .mapPurge) h
  | condemnRow q args => exact commandRow_keeps (c := .condemnRow) h
  | subCancel q args => exact commandRow_keeps (c := .subCancel) h
  | subLoad q args => exact commandRow_keeps (c := .subLoad) h
  | spareRetire q args => exact commandRow_keeps (c := .spareRetire) h
  | subRead q args => exact commandRow_keeps (c := .subRead) h
  | spareRead q args => exact commandRow_keeps (c := .spareRead) h
  | condemnLane q args => exact commandRow_keeps (c := .condemnLane) h
  | laneCancel q args => exact commandRow_keeps (c := .laneCancel) h
  | laneLoad q args => exact commandRow_keeps (c := .laneLoad) h
  | laneRead q args => exact commandRow_keeps (c := .laneRead) h
  | scrubRead q args => exact commandRow_keeps (c := .scrubRead) h

/-- A command taken from the front of the queue is no part of any invariant (log 1). -/
theorem withPending_keeps (s : State) (rest : List Instr) : Keeps s { s with pending := rest } := SameData.and_calm {} {}

theorem step_keeps {s t : State} (h : step s = .next t) : Keeps s t := by
  unfold step at h
  split at h
  · cases h
    exact .refl s
  · exact (withPending_keeps s _).trans (exec_keeps h)

/-- A command never stops: TURN_GRANT alone could, and its claims name words the arrays have. -/
theorem exists_exec (c : Instr) {s : State} (h : Inv s) : ∃ t, exec c s = .next t := by
  cases c with
  | turnGrant a => exact exists_execTurnGrant a h
  | _ => exact ⟨_, rfl⟩

theorem exists_step {s : State} (h : Inv s) : ∃ t, step s = .next t := by
  unfold step
  split
  · exact ⟨s, rfl⟩
  · exact exists_exec _ ((withPending_keeps s _).inv h)

/-! ## The statements -/

/-- Settles O10: every command answers a next state from a state under the invariant, and every step keeps it. -/
theorem stepsNeverStop : Obligations.StepsNeverStop := by
  intro s hs
  obtain ⟨t, ht⟩ := exists_step hs
  exact ⟨t, ht, (step_keeps ht).inv hs⟩

/-- Settles O4: every step keeps the canonical form of the stored words, and a word reads as it was last written. -/
theorem storedWordsAreKept : Obligations.StoredWordsAreKept :=
  ⟨fun _ _ hs h => (step_keeps h).mem hs, word_setWord⟩

end Sys2Proof.Machine
end

section
/-! The statement on the path state (R33, R46, R155, R157, R162 to R168). -/

namespace Sys2Proof.Machine

set_option Elab.async false

/-- Settles O8: the path state is one of the invariants that every step keeps. -/
theorem stepsKeepPathState : Obligations.StepsKeepPathState :=
  fun _ _ hs h => (step_keeps h).path hs

end Sys2Proof.Machine
end

section
/-! SUPPORT. What leaves the stored words, the reset count and the parameters alone (R29, R34, R35, R192): the shared
operations, the grants and the commands of the link. -/

namespace Sys2Proof.Machine

set_option Elab.async false

/-! ## The relations -/

/-- Two states with the same stored words: none was written, and no reset has left them undefined (R35, R160). -/
structure SameWords (s t : State) : Prop where
  mem : t.mem = s.mem := by rfl
  epoch : t.epoch = s.epoch := by rfl

/-- Two states with the same stored words and the same parameters. -/
structure SameStore (s t : State) : Prop extends SameWords s t where
  params : t.params = s.params := by rfl

theorem SameWords.trans {s t u : State} (h : SameWords s t) (g : SameWords t u) : SameWords s u where
  mem := g.mem.trans h.mem
  epoch := g.epoch.trans h.epoch

theorem SameStore.refl (s : State) : SameStore s s := {}

theorem SameStore.trans {s t u : State} (h : SameStore s t) (g : SameStore t u) : SameStore s u where
  toSameWords := h.toSameWords.trans g.toSameWords
  params := g.params.trans h.params

theorem SameStore.reply {s t : State} (h : SameStore s t) (q : Byte) (st : LinkStatus) (b : List Byte) :
    SameStore s (reply q st b t) := h.trans {}

/-- What repairs reach is neither a stored word nor a parameter. -/
theorem SameBeyondRepair.sameStore {s t : State} (h : SameBeyondRepair s t) : SameStore s t where
  mem := h.mem
  epoch := h.epoch
  params := h.params

/-! ## Alerts and moves of the path state -/

theorem raise_sameStore (f : AlertFlag) (s : State) : SameStore s (raise f s) := (raise_same f s).sameStore

theorem changeAlert_sameStore (u : AlertUnit) (s : State) : SameStore s (changeAlert u s) := by
  rcases changeAlert_cases u s with h | ⟨-, -, -, h⟩ <;> rw [h] <;> exact {}

theorem answerQuiesce_sameStore (st : LinkStatus) (s : State) : SameStore s (answerQuiesce st s) := by
  unfold answerQuiesce
  split <;> exact {}

theorem withdrawPeek_sameStore (s : State) : SameStore s (withdrawPeek s) := by
  rw [withdrawPeek_frame]
  exact {}

theorem abandonQuiet_sameStore (s : State) : SameStore s (abandonQuiet s) :=
  SameStore.trans (t := setQuietOutcome .abandoned (moveTo .opened s)) {} (answerQuiesce_sameStore ..)

theorem abandonQuiet_path (s : State) : (abandonQuiet s).path.path = .opened := by
  unfold abandonQuiet answerQuiesce
  split <;> rfl

/-! ## Requests (R144 to R146) -/

theorem weighOpen_sameStore (r : Request) {s : State} (hp : s.path.path = .opened) : SameStore s (weighOpen r s) := by
  rw [weighOpen_frame r hp]
  exact {}

theorem weigh_sameStore (r : Request) (s : State) : SameStore s (weigh r s) := by
  unfold weigh
  split
  · exact .refl s
  · split
    case h_1 => exact .refl s
    case h_6 hp => exact weighOpen_sameStore r hp
    case h_7 => exact (abandonQuiet_sameStore s).trans (weighOpen_sameStore r (abandonQuiet_path s))
    case h_8 => exact {}
    case h_9 => exact {}
    all_goals
      rw [answerClosed_eq]
      exact {}

theorem weighWaiting_sameStore (s : State) : SameStore s (weighWaiting s) := by
  unfold weighWaiting
  split
  · exact .refl s
  · exact SameStore.trans (t := discardWaiting s) {} (weigh_sameStore ..)

theorem changePath_sameStore (p : PathState) (s : State) : SameStore s (changePath p s) :=
  SameStore.trans (t := moveTo p s) {} (weighWaiting_sameStore _)

theorem enterDraining_sameStore (s : State) : SameStore s (enterDraining s) :=
  (SameStore.trans (t := moveTo .draining s) {} (withdrawPeek_sameStore _)).trans
    ((raise_sameStore ..).trans (weighWaiting_sameStore _))

theorem present_sameStore (r : Request) (s : State) : SameStore s (present r s) := by
  unfold present
  split
  · exact .refl s
  · exact weigh_sameStore r s

/-! ## The lines and the timed ends (R154 to R168) -/

theorem execHoldEnd_sameStore {s t : State} (h : execHoldEnd s = .next t) : SameStore s t := by
  cases Host.Outcome.next.inj h
  split
  · split
    · exact SameStore.trans (t := moveTo .setup s) {} (enterDraining_sameStore _)
    · exact changePath_sameStore ..
  · exact .refl s

theorem busResetPath_sameStore (s : State) : SameStore s (busResetPath s) := by
  unfold busResetPath
  split
  · exact abandonQuiet_sameStore s
  all_goals exact {}

theorem execBusResetAsserted_sameStore {s t : State} (h : execBusResetAsserted s = .next t) : SameStore s t := by
  cases Host.Outcome.next.inj h
  split
  · exact .refl s
  · split
    · exact {}
    · exact SameStore.trans (t := busResetCleared s) {} (busResetPath_sameStore _)

theorem execSupplyWarningAsserted_sameStore {s t : State} (h : execSupplyWarningAsserted s = .next t) :
    SameStore s t := by
  have hwarned : SameStore s { s with supplyWarning := true } := {}
  cases Host.Outcome.next.inj h
  split
  · exact .refl s
  · dsimp only
    split
    case h_6 => exact (hwarned.trans (abandonQuiet_sameStore _)).trans (enterDraining_sameStore _)
    case h_7 => exact {}
    case h_8 => exact {}
    case h_9 => exact {}
    all_goals exact hwarned.trans (enterDraining_sameStore _)

theorem execSupplyWarningReleased_sameStore {s t : State} (h : execSupplyWarningReleased s = .next t) :
    SameStore s t := by
  cases Host.Outcome.next.inj h
  split
  · dsimp only
    split
    · exact SameStore.trans (t := { s with supplyWarning := false }) {} (changePath_sameStore ..)
    all_goals exact {}
  · exact .refl s

theorem execRetentionExitEnd_sameStore {s t : State} (h : execRetentionExitEnd s = .next t) : SameStore s t := by
  cases Host.Outcome.next.inj h
  split
  · exact SameStore.trans (t := { s with path := { s.path with retentionExit := false } }) {} (changePath_sameStore ..)
  · exact .refl s

theorem execWakeEnd_sameStore {s t : State} (h : execWakeEnd s = .next t) : SameStore s t := by
  cases Host.Outcome.next.inj h
  split
  · exact changePath_sameStore ..
  · exact .refl s

theorem execQuietEntryComplete_sameStore {s t : State} (h : execQuietEntryComplete s = .next t) : SameStore s t := by
  have hentered : SameStore s (quietEntered s) :=
    SameStore.trans (t := setQuietOutcome .entered (moveTo .quiet s)) {} (answerQuiesce_sameStore ..)
  cases Host.Outcome.next.inj h
  split
  · dsimp only
    split
    · exact hentered.trans (u := beginWake (quietEntered s)) {}
    · exact hentered
  · exact .refl s

theorem execDrainToFrozen_sameStore {s t : State} (h : execDrainToFrozen s = .next t) : SameStore s t := by
  cases Host.Outcome.next.inj h
  split <;> exact {}

theorem execScrubIntervalExpiry_sameStore {s t : State} (h : execScrubIntervalExpiry s = .next t) : SameStore s t := by
  cases Host.Outcome.next.inj h
  split <;> exact {}

/-! ## Grants (R29, R34) -/

/-- A grant begins a turn and marks what its claimant has handed over; it reads and writes no word. -/
theorem grant_sameStore {a : ArrayNo} {k : TurnKind} {s t : State} (h : grant a k s = some t) : SameStore s t := by
  cases k with
  | hostRead =>
    change grantHostRead a s = some t at h
    unfold grantHostRead at h
    split at h
    · cases h; exact {}
    · split at h <;> cases h
      exact {}
  | drain =>
    change grantDrain a s = some t at h
    unfold grantDrain at h
    split at h
    · cases h; exact {}
    · dsimp only at h
      split at h <;> cases h
      exact {}
  | peek =>
    change grantPeek a s = some t at h
    unfold grantPeek at h
    split at h <;> cases h <;> exact {}
  | copy =>
    change grantCopy a s = some t at h
    unfold grantCopy at h
    split at h
    · cases h; exact {}
    · split at h
      · cases h; exact {}
      · split at h <;> cases h
        exact {}
  | migrate =>
    change grantMigrate a s = some t at h
    unfold grantMigrate at h
    split at h
    · cases h; exact {}
    · cases h; exact {}
    · split at h <;> cases h
      exact {}
  | fill =>
    change grantFill a s = some t at h
    unfold grantFill at h
    split at h <;> cases h <;> exact {}
  | scrub =>
    change grantScrub a s = some t at h
    unfold grantScrub at h
    split at h <;> cases h
    exact {}

theorem execTurnGrant_sameStore {a : ArrayNo} {s t : State} (h : execTurnGrant a s = .next t) : SameStore s t := by
  rcases execTurnGrant_cases a s with ⟨-, ht⟩ | ⟨k, u, -, hu, ht⟩ | ⟨k, -, -, ht⟩
  · cases ht.symm.trans h
    exact .refl s
  · cases ht.symm.trans h
    exact grant_sameStore hu
  · cases ht.symm.trans h

end Sys2Proof.Machine
end

section
/-! SUPPORT. The commands of the link: which of them leave the stored words and the parameters alone (R16, R169, R192), and
how a frame or a byte comes to run one (R179, R185, R189). -/

namespace Sys2Proof.Machine

set_option Elab.async false

/-! ## The two commands that set parameters (R16, R169, R192) -/

theorem setParam_sameWords (id v : Nat) (s : State) : SameWords s (setParam id v s) := by
  unfold setParam
  split <;> exact {}

theorem setArrays_sameWords (n : ArrayCount) (s : State) : SameWords s (setArrays n s) := by
  rw [setArrays_frame]
  exact {}

theorem doSetParam_sameWords (q : Byte) (args : List Byte) (s : State) : SameWords s (doSetParam q args s) := by
  unfold doSetParam
  split
  · unfold doSetArrays
    split
    · split
      · exact (setArrays_sameWords ..).trans {}
      · exact {}
    · exact {}
  · split
    · exact (setParam_sameWords ..).trans {}
    · exact {}

theorem restartPath_sameStore (s : State) : SameStore s (restartPath s) := by
  unfold restartPath
  split
  case h_1 => exact changePath_sameStore ..
  case h_2 => exact changePath_sameStore ..
  case h_3 => exact changePath_sameStore ..
  all_goals exact {}

theorem doRestart_sameWords (q : Byte) (args : List Byte) (s : State) : SameWords s (doRestart q args s) :=
  SameWords.trans {} (restartPath_sameStore _).toSameWords

/-! ## The other commands -/

variable (q : Byte) (args : List Byte) (s : State)

theorem doGetParam_sameStore : SameStore s (doGetParam q args s) := by
  unfold doGetParam
  split <;> exact {}

theorem doOpen_sameStore : SameStore s (doOpen q args s) := by
  unfold doOpen
  split
  · exact (changePath_sameStore ..).reply ..
  all_goals exact {}

theorem doClose_sameStore : SameStore s (doClose q args s) := by
  unfold doClose
  split
  · exact (changePath_sameStore ..).reply ..
  all_goals exact {}

theorem doFill_sameStore : SameStore s (doFill q args s) := by
  unfold doFill
  split
  · exact SameStore.reply ((changePath_sameStore .filling s).trans {}) ..
  all_goals exact {}

theorem doQuiesce_sameStore : SameStore s (doQuiesce q args s) := by
  unfold doQuiesce
  split
  · split
    · exact {}
    · exact SameStore.trans
        (t := { s with link := { s.link with lock := some { seq := q, command := .quiesce } } }) {}
        (changePath_sameStore ..)
  all_goals exact {}

theorem doWake_sameStore : SameStore s (doWake q args s) := by
  unfold doWake
  split <;> exact {}

theorem doPeek_sameStore : SameStore s (doPeek q args s) := by
  unfold doPeek
  split
  iterate 3
    · split <;> exact {}
  all_goals exact {}

theorem doMapRead_sameStore : SameStore s (doMapRead q args s) := by
  unfold doMapRead
  split
  · exact {}
  · split <;> exact {}

theorem doMapDelete_sameStore : SameStore s (doMapDelete q args s) := by
  unfold doMapDelete
  split
  · exact {}
  · split <;> exact {}

theorem doCondemnRow_sameStore : SameStore s (doCondemnRow q args s) := by
  unfold doCondemnRow
  split
  iterate 2
    · split
      · split
        · exact (condemnRowEngine_same ..).sameStore.reply ..
        · exact {}
      · exact {}
  all_goals exact {}

theorem cancelCopy_sameStore (i : Fin 32) (e : SubEntry) (src : CopySource) : SameStore s (cancelCopy i e src s) :=
  (mapTurn_same ..).sameStore.trans {}

theorem doSubCancel_sameStore : SameStore s (doSubCancel q args s) := by
  unfold doSubCancel
  split
  · exact {}
  · split
    · exact {}
    · split
      · exact {}
      · exact (cancelCopy_sameStore ..).reply ..

theorem doSubLoad_sameStore : SameStore s (doSubLoad q args s) := by
  unfold doSubLoad
  split
  · split
    · exact {}
    · split <;> exact {}
  all_goals exact {}

theorem doSpareRetire_sameStore : SameStore s (doSpareRetire q args s) := by
  unfold doSpareRetire
  split
  · split <;> exact {}
  · exact {}

theorem doSubRead_sameStore : SameStore s (doSubRead q args s) := by
  unfold doSubRead
  split
  · exact {}
  · split <;> exact {}

theorem doSpareRead_sameStore : SameStore s (doSpareRead q args s) := by
  unfold doSpareRead
  split <;> exact {}

theorem condemnCodedLane_sameStore (auto : Bool) (a : ArrayNo) (k : CodedLane) :
    SameStore s (condemnCodedLane auto a k s).1 := by
  unfold condemnCodedLane
  split
  · split <;> exact {}
  · split
    · exact {}
    · split
      · exact {}
      · exact raise_sameStore ..

theorem doCondemnLane_sameStore : SameStore s (doCondemnLane q args s) := by
  unfold doCondemnLane
  split
  iterate 2
    · split
      · exact (condemnCodedLane_sameStore ..).reply ..
      · exact {}
  all_goals exact {}

theorem doLaneCancel_sameStore : SameStore s (doLaneCancel q args s) := by
  unfold doLaneCancel
  split
  · exact {}
  · split
    · exact {}
    · exact {}
    · exact SameStore.reply (SameStore.trans (t := setSteer _ .normal s) {} (mapTurn_same ..).sameStore) ..

theorem doLaneLoad_sameStore : SameStore s (doLaneLoad q args s) := by
  unfold doLaneLoad
  split
  · split
    · split <;> exact {}
    · exact {}
  all_goals exact {}

theorem doLaneRead_sameStore : SameStore s (doLaneRead q args s) := by
  unfold doLaneRead
  split <;> exact {}

/-- Every command of the link but SET-PARAM and RESTART leaves the parameters alone (R192), and the words with them. -/
theorem commandEffect_sameStore {c : LinkCommand} (hset : c ≠ .setParam) (hrestart : c ≠ .restart) :
    SameStore s (commandEffect c q args s) := by
  cases c with
  | setParam => exact absurd rfl hset
  | restart => exact absurd rfl hrestart
  | status => exact {}
  | getParam => exact doGetParam_sameStore q args s
  | openPort => exact doOpen_sameStore q args s
  | closePort => exact doClose_sameStore q args s
  | fill => exact doFill_sameStore q args s
  | quiesce => exact doQuiesce_sameStore q args s
  | wake => exact doWake_sameStore q args s
  | readCauses => exact {}
  | clearCauses => exact {}
  | clearFlags => exact (changeAlert_sameStore ..).reply ..
  | setEnables => exact (changeAlert_sameStore ..).reply ..
  | peek => exact doPeek_sameStore q args s
  | mapRead => exact doMapRead_sameStore q args s
  | mapDelete => exact doMapDelete_sameStore q args s
  | mapPurge => exact {}
  | condemnRow => exact doCondemnRow_sameStore q args s
  | subCancel => exact doSubCancel_sameStore q args s
  | subLoad => exact doSubLoad_sameStore q args s
  | spareRetire => exact doSpareRetire_sameStore q args s
  | subRead => exact doSubRead_sameStore q args s
  | spareRead => exact doSpareRead_sameStore q args s
  | condemnLane => exact doCondemnLane_sameStore q args s
  | laneCancel => exact doLaneCancel_sameStore q args s
  | laneLoad => exact doLaneLoad_sameStore q args s
  | laneRead => exact doLaneRead_sameStore q args s
  | scrubRead => exact {}

/-- No command of the link writes a word (R35). -/
theorem commandEffect_sameWords (c : LinkCommand) : SameWords s (commandEffect c q args s) := by
  by_cases hset : c = .setParam
  · subst hset
    exact doSetParam_sameWords q args s
  by_cases hrestart : c = .restart
  · subst hrestart
    exact doRestart_sameWords q args s
  exact (commandEffect_sameStore q args s hset hrestart).toSameWords

/-! ## How a command comes to run (R179, R185, R189) -/

theorem dealGood_cases (execute : State → State) :
    SameStore s (dealGood q execute s) ∨ dealGood q execute s = execute s := by
  unfold dealGood
  split
  · exact .inl {}
  · split
    · split
      · exact .inl {}
      · exact .inr rfl
    · exact .inr rfl

theorem executeCommand_cases (c : LinkCommand) :
    SameStore s (executeCommand c (commandEffect c) q args s) ∨
      executeCommand c (commandEffect c) q args s = commandEffect c q args s := by
  unfold executeCommand
  split
  · exact .inl {}
  · exact .inr rfl

/-- A good frame of a command is answered without it, or the command runs (R185, R189). -/
theorem dealGood_command_cases (c : LinkCommand) :
    SameStore s (dealGood q (executeCommand c (commandEffect c) q args) s) ∨
      dealGood q (executeCommand c (commandEffect c) q args) s = commandEffect c q args s := by
  rcases dealGood_cases q s (executeCommand c (commandEffect c) q args) with h | h
  · exact .inl h
  · rw [h]
    exact executeCommand_cases q args s c

theorem rejectFrame_sameStore : SameStore s (rejectFrame q s) :=
  SameStore.trans (t := respond { seq := q, status := .linkReject, result := [] } s) {} (raise_sameStore ..)

/-- Outside a frame that can be taken whole, nothing arrives. -/
theorem frameArrives_cases (code : Byte) (next : State → State) :
    frameArrives q code args next s = s ∨ frameArrives q code args next s = next (setReceiver .awaitMarker s) := by
  unfold frameArrives
  split
  · exact .inr rfl
  · exact .inl rfl

/-- A command of the link runs between two states: in a state with the same store as the first, and to the second. -/
def RunsCommand (c : LinkCommand) (s t : State) : Prop :=
  ∃ q args u, SameStore s u ∧ t = commandEffect c q args u

theorem commandRow_cases {c : LinkCommand} {q : Byte} {args : List Byte} {s t : State}
    (h : commandRow c (commandEffect c) q args s = .next t) : SameStore s t ∨ RunsCommand c s t := by
  have harrived : SameStore s (setReceiver .awaitMarker s) := {}
  cases Host.Outcome.next.inj h
  rcases frameArrives_cases q args s c.code (dealGood q (executeCommand c (commandEffect c) q args)) with h | h <;> rw [h]
  · exact .inl (.refl s)
  · rcases dealGood_command_cases q args (setReceiver .awaitMarker s) c with h | h
    · exact .inl (harrived.trans h)
    · exact .inr ⟨q, args, _, harrived, h⟩

theorem code_of_ofCode {code : Byte} {c : LinkCommand} (h : LinkCommand.ofCode code = some c) : c.code = code :=
  eq_of_beq (List.find?_some (p := fun c : LinkCommand => c.code == code) h)

/-- A complete frame runs the command of its code, when its check is good (R183, R185, R189). -/
theorem completeFrame_cases (g : List Byte) (check : Byte) (s : State) :
    SameStore s (completeFrame g check s) ∨
      ∃ l q args c, g = l :: q :: c.code :: args ∧ crc g = check ∧ RunsCommand c s (completeFrame g check s) := by
  unfold completeFrame
  split
  next l q code args =>
    split
    next hcrc =>
      split
      next c hc =>
        rcases dealGood_command_cases q args s c with h | h
        · exact .inl h
        · obtain rfl := code_of_ofCode hc
          exact .inr ⟨l, q, args, c, rfl, hcrc, q, args, s, .refl s, h⟩
      next =>
        rcases dealGood_cases q s (executeUnknown q) with h | h
        · exact .inl h
        · rw [h]
          exact .inl {}
    · exact .inl (rejectFrame_sameStore q s)
  · exact .inl (.refl s)

/-- A byte runs a command only where it completes that command's good frame (R179). -/
theorem takeByte_cases (b : Byte) (s : State) :
    SameStore s (takeByte b s) ∨
      ∃ c : LinkCommand, completedCode b s = some c.code ∧ RunsCommand c s (takeByte b s) := by
  unfold takeByte
  split
  · exact .inl (.refl s)
  next hhold =>
    split
    · split <;> exact .inl {}
    next g hg =>
      unfold frameByte
      split
      · split <;> exact .inl {}
      next l rest =>
        split
        · exact .inl {}
        next hlen =>
          have harrived : SameStore s (setReceiver .awaitMarker s) := {}
          rcases completeFrame_cases (l :: rest) b (setReceiver .awaitMarker s) with
            h | ⟨l', q, args, c, hbytes, hcrc, q', args', u, hu, h⟩
          · exact .inl (harrived.trans h)
          · refine .inr ⟨c, ?_, q', args', u, harrived.trans hu, h⟩
            obtain ⟨rfl, rfl⟩ := List.cons.inj hbytes
            have hcomplete : l.toNat ≤ args.length + 2 := Nat.le_of_not_lt hlen
            simp only [completedCode, if_neg hhold, hg, hcomplete, hcrc, and_self, if_true]
    · exact .inl (.refl s)

end Sys2Proof.Machine
end

section
/-! SUPPORT. Completions leave the parameters alone (R34, R37), and the statement on what changes words and parameters. -/

namespace Sys2Proof.Machine

set_option Elab.async false

/-! ## The parts of a completion -/

section
variable (a : ArrayNo) (i : PhysIndex) (s : State)

@[simp] theorem disturb_params (flips : Stored) : (disturb a i flips s).params = s.params := by
  rw [disturb_eq_withMem]; rfl

@[simp] theorem setWords_params (w : Stored) (is : List PhysIndex) : (setWords a w is s).params = s.params := by
  rw [setWords_eq_withMem]; rfl

@[simp] theorem repairWrite_params (r : SteerRecord) (d : Decoded) : (repairWrite a i r d s).params = s.params := by
  unfold repairWrite
  split <;> rfl

@[simp] theorem report_params (g : Origin) (d : Decoded) : (report a i g d s).params = s.params := (report_same ..).params

@[simp] theorem endTurn_params : (endTurn a s).params = s.params := rfl

@[simp] theorem hostReadResult_params (place : Nat) (d : Decoded) : (hostReadResult place d s).params = s.params := by
  unfold hostReadResult
  split <;> rfl

@[simp] theorem answerPeek_params (result : List Byte) : (answerPeek result s).params = s.params := by
  unfold answerPeek
  split <;> rfl

@[simp] theorem completeCopy_params (j : Fin 32) (e : SubEntry) (src : CopySource) :
    (completeCopy j e src s).params = s.params := by
  cases src <;> exact raise_params ..

@[simp] theorem copyResult_params (h : CopyHand) : (copyResult h s).params = s.params := by
  unfold copyResult
  split
  · rfl
  · split
    · rfl
    · split
      · rfl
      · split
        · exact completeCopy_params ..
        · rfl

@[simp] theorem migrateResult_params (void : Bool) : (migrateResult a i void s).params = s.params := by
  unfold migrateResult
  split
  · rfl
  · split
    · rfl
    · rfl
    · split
      · exact raise_params ..
      · rfl

@[simp] theorem fillNotice_params : (fillNotice s).params = s.params := by
  unfold fillNotice
  split <;> rfl

@[simp] theorem fillResult_params (void : Bool) : (fillResult a i void s).params = s.params := by
  unfold fillResult
  split
  · rfl
  · split
    · rfl
    · rw [fillNotice_params, raise_params]

@[simp] theorem advanceCursor_params : (advanceCursor s).params = s.params := by
  unfold advanceCursor
  split
  · rfl
  · split
    · rfl
    · exact raise_params ..

@[simp] theorem scrubResult_params (left : Bool) : (scrubResult left s).params = s.params := by
  unfold scrubResult
  split
  · rfl
  · exact advanceCursor_params s

end

/-! ## What a command touches -/

/-- The completions of turns (R35 to R45). -/
def CompletesTurn (c : Instr) : Prop :=
  (∃ a, c = .fillTurnComplete a) ∨
  ∃ a f, c = .hostReadComplete a f ∨ c = .drainComplete a f ∨ c = .peekTurnComplete a f ∨ c = .copyTurnComplete a f ∨
    c = .migrateTurnComplete a f ∨ c = .scrubTurnComplete a f

/-- A completion leaves the parameters alone. -/
theorem params_of_completesTurn {c : Instr} {s t : State} (hc : CompletesTurn c) (h : exec c s = .next t) :
    t.params = s.params := by
  rcases hc with ⟨a, rfl⟩ | ⟨a, f, rfl | rfl | rfl | rfl | rfl | rfl⟩ <;> cases Host.Outcome.next.inj h
  · split
    · simp
    · rfl
  · split
    · unfold completeHostRead
      dsimp only
      split <;> simp
    · rfl
  · split
    · split <;> simp [drainResult, drainFull, drainPartial]
    · rfl
  · split
    · simp
    · rfl
  · split
    · dsimp only
      split <;> simp
    · rfl
  · split
    · simp
    · rfl
  · split
    · simp
    · rfl

/-- What a command can touch: neither words nor parameters, unless it is a reset, a completion, or a command of the link
that runs on its frame or on the last byte of it. -/
inductive Touches (c : Instr) (s t : State) : Prop
  | nothing (same : SameStore s t)
  | reset (is : c = .powerOn ∨ c = .supplyDip)
  | words (completes : CompletesTurn c) (params : t.params = s.params)
  | command (cmd : LinkCommand) (runs : RunsCommand cmd s t)
      (brought : (∃ q args, c = cmd.row q args) ∨ ∃ b, c = .byteArrives b ∧ completedCode b s = some cmd.code)

theorem touches_completion {c : Instr} {s t : State} (hc : CompletesTurn c) (h : exec c s = .next t) : Touches c s t :=
  .words hc (params_of_completesTurn hc h)

theorem touches_row {cmd : LinkCommand} {q : Byte} {args : List Byte} {s t : State}
    (h : exec (cmd.row q args) s = .next t) : Touches (cmd.row q args) s t := by
  rw [exec_row] at h
  rcases commandRow_cases h with h | h
  · exact .nothing h
  · exact .command cmd h (.inl ⟨q, args, rfl⟩)

theorem touches_byte {b : Byte} {s t : State} (h : exec (.byteArrives b) s = .next t) : Touches (.byteArrives b) s t := by
  cases Host.Outcome.next.inj h
  rcases takeByte_cases b s with h | ⟨cmd, hcode, h⟩
  · exact .nothing h
  · exact .command cmd h (.inr ⟨b, rfl, hcode⟩)

theorem execLinkGapTimeout_sameStore {s t : State} (h : execLinkGapTimeout s = .next t) : SameStore s t := by
  cases Host.Outcome.next.inj h
  split
  · split
    · exact .refl s
    · exact SameStore.trans (t := setReceiver .awaitMarker s) {} (raise_sameStore ..)
  all_goals exact .refl s

theorem execDiscardingTimeout_sameStore {s t : State} (h : execDiscardingTimeout s = .next t) : SameStore s t := by
  cases Host.Outcome.next.inj h
  split
  · split
    · exact .refl s
    · exact SameStore.trans (t := setReceiver .awaitMarker s) {} (raise_sameStore ..)
  all_goals exact .refl s

theorem execLinkReject_sameStore {q code : Byte} {args : List Byte} {check : Byte} {s t : State}
    (h : execLinkReject q code args check s = .next t) : SameStore s t := by
  cases Host.Outcome.next.inj h
  split
  · exact .refl s
  · rcases frameArrives_cases q args s code (rejectFrame q) with h | h <;> rw [h]
    · exact .refl s
    · exact SameStore.trans (t := setReceiver .awaitMarker s) {} (rejectFrame_sameStore ..)

theorem execUnknown_sameStore {q code : Byte} {args : List Byte} {s t : State} (h : execUnknown q code args s = .next t) :
    SameStore s t := by
  have harrived : SameStore s (setReceiver .awaitMarker s) := {}
  cases Host.Outcome.next.inj h
  split
  · exact .refl s
  · rcases frameArrives_cases q args s code (dealGood q (executeUnknown q)) with h | h <;> rw [h]
    · exact .refl s
    · rcases dealGood_cases q (setReceiver .awaitMarker s) (executeUnknown q) with h | h
      · exact harrived.trans h
      · rw [h]
        exact harrived.reply ..

theorem exec_touches {c : Instr} {s t : State} (h : exec c s = .next t) : Touches c s t := by
  cases c with
  | powerOn => exact .reset (.inl rfl)
  | supplyDip => exact .reset (.inr rfl)
  | holdEnd => exact .nothing (execHoldEnd_sameStore h)
  | busResetAsserted => exact .nothing (execBusResetAsserted_sameStore h)
  | busResetReleased =>
    cases Host.Outcome.next.inj h
    exact .nothing {}
  | supplyWarningAsserted => exact .nothing (execSupplyWarningAsserted_sameStore h)
  | supplyWarningReleased => exact .nothing (execSupplyWarningReleased_sameStore h)
  | retentionExitEnd => exact .nothing (execRetentionExitEnd_sameStore h)
  | wakeEnd => exact .nothing (execWakeEnd_sameStore h)
  | quietEntryComplete => exact .nothing (execQuietEntryComplete_sameStore h)
  | drainToFrozen => exact .nothing (execDrainToFrozen_sameStore h)
  | readRequest tag addr =>
    cases Host.Outcome.next.inj h
    exact .nothing (present_sameStore ..)
  | writeRequest addr mask data parity =>
    cases Host.Outcome.next.inj h
    exact .nothing (present_sameStore ..)
  | requestWeighedAgain =>
    cases Host.Outcome.next.inj h
    exact .nothing (weighWaiting_sameStore s)
  | turnGrant a => exact .nothing (execTurnGrant_sameStore h)
  | hostReadComplete a f => exact touches_completion (.inr ⟨a, f, .inl rfl⟩) h
  | drainComplete a f => exact touches_completion (.inr ⟨a, f, .inr (.inl rfl)⟩) h
  | peekTurnComplete a f => exact touches_completion (.inr ⟨a, f, .inr (.inr (.inl rfl))⟩) h
  | copyTurnComplete a f => exact touches_completion (.inr ⟨a, f, .inr (.inr (.inr (.inl rfl)))⟩) h
  | migrateTurnComplete a f => exact touches_completion (.inr ⟨a, f, .inr (.inr (.inr (.inr (.inl rfl))))⟩) h
  | fillTurnComplete a => exact touches_completion (.inl ⟨a, rfl⟩) h
  | scrubTurnComplete a f => exact touches_completion (.inr ⟨a, f, .inr (.inr (.inr (.inr (.inr rfl))))⟩) h
  | scrubIntervalExpiry => exact .nothing (execScrubIntervalExpiry_sameStore h)
  | linkGapTimeout => exact .nothing (execLinkGapTimeout_sameStore h)
  | discardingTimeout => exact .nothing (execDiscardingTimeout_sameStore h)
  | linkReject q code args check => exact .nothing (execLinkReject_sameStore h)
  | unknown q code args => exact .nothing (execUnknown_sameStore h)
  | byteArrives b => exact touches_byte h
  | responseSent =>
    cases Host.Outcome.next.inj h
    exact .nothing {}
  | status q args => exact touches_row (cmd := .status) h
  | getParam q args => exact touches_row (cmd := .getParam) h
  | setParam q args => exact touches_row (cmd := .setParam) h
  | openPort q args => exact touches_row (cmd := .openPort) h
  | closePort q args => exact touches_row (cmd := .closePort) h
  | fill q args => exact touches_row (cmd := .fill) h
  | quiesce q args => exact touches_row (cmd := .quiesce) h
  | wake q args => exact touches_row (cmd := .wake) h
  | restart q args => exact touches_row (cmd := .restart) h
  | readCauses q args => exact touches_row (cmd := .readCauses) h
  | clearCauses q args => exact touches_row (cmd := .clearCauses) h
  | clearFlags q args => exact touches_row (cmd := .clearFlags) h
  | setEnables q args => exact touches_row (cmd := .setEnables) h
  | peek q args => exact touches_row (cmd := .peek) h
  | mapRead q args => exact touches_row (cmd := .mapRead) h
  | mapDelete q args => exact touches_row (cmd := .mapDelete) h
  | mapPurge q args => exact touches_row (cmd := .mapPurge) h
  | condemnRow q args => exact touches_row (cmd := .condemnRow) h
  | subCancel q args => exact touches_row (cmd := .subCancel) h
  | subLoad q args => exact touches_row (cmd := .subLoad) h
  | spareRetire q args => exact touches_row (cmd := .spareRetire) h
  | subRead q args => exact touches_row (cmd := .subRead) h
  | spareRead q args => exact touches_row (cmd := .spareRead) h
  | condemnLane q args => exact touches_row (cmd := .condemnLane) h
  | laneCancel q args => exact touches_row (cmd := .laneCancel) h
  | laneLoad q args => exact touches_row (cmd := .laneLoad) h
  | laneRead q args => exact touches_row (cmd := .laneRead) h
  | scrubRead q args => exact touches_row (cmd := .scrubRead) h

theorem words_of_touches {c : Instr} {s t : State} (h : Touches c s t) (hpower : c ≠ .powerOn) (hdip : c ≠ .supplyDip)
    (hturn : ¬CompletesTurn c) : SameWords s t := by
  cases h with
  | nothing same => exact same.toSameWords
  | reset is => exact absurd is (not_or.mpr ⟨hpower, hdip⟩)
  | words completes => exact absurd completes hturn
  | command cmd runs =>
    obtain ⟨q, args, u, hu, rfl⟩ := runs
    exact hu.toSameWords.trans (commandEffect_sameWords q args u cmd)

theorem params_of_touches {c : Instr} {s t : State} (h : Touches c s t) (hpower : c ≠ .powerOn) (hdip : c ≠ .supplyDip)
    (hrow : ∀ q args, c ≠ .setParam q args ∧ c ≠ .restart q args)
    (hbyte : ∀ b, c = .byteArrives b → completedCode b s ≠ some 0x03 ∧ completedCode b s ≠ some 0x15) :
    t.params = s.params := by
  cases h with
  | nothing same => exact same.params
  | reset is => exact absurd is (not_or.mpr ⟨hpower, hdip⟩)
  | words _ params => exact params
  | command cmd runs brought =>
    obtain ⟨q, args, u, hu, rfl⟩ := runs
    suffices hcmd : cmd ≠ .setParam ∧ cmd ≠ .restart from
      (commandEffect_sameStore q args u hcmd.1 hcmd.2).params.trans hu.params
    rcases brought with ⟨q', args', hc⟩ | ⟨b, hc, hcode⟩
    · obtain ⟨hset, hrestart⟩ := hrow q' args'
      exact ⟨fun h => hset (by rw [hc, h]; rfl), fun h => hrestart (by rw [hc, h]; rfl)⟩
    · obtain ⟨hset, hrestart⟩ := hbyte b hc
      exact ⟨fun h => hset (by rw [hcode, h]; rfl), fun h => hrestart (by rw [hcode, h]; rfl)⟩

/-- Settles O13: what each command touches, by `exec_touches`. -/
theorem wordsAndParametersChangeByTheirCommands : Obligations.WordsAndParametersChangeByTheirCommands := by
  refine ⟨fun c s t h hpower hdip hfill hturn => ?_, fun c s t h hpower hdip hrow hbyte => ?_⟩
  · have hno : ¬CompletesTurn c := by
      rintro (⟨a, ha⟩ | ⟨a, f, ha⟩)
      · exact hfill a ha
      · obtain ⟨h1, h2, h3, h4, h5, h6⟩ := hturn a f
        rcases ha with ha | ha | ha | ha | ha | ha
        · exact h1 ha
        · exact h2 ha
        · exact h3 ha
        · exact h4 ha
        · exact h5 ha
        · exact h6 ha
    have hwords := words_of_touches (exec_touches h) hpower hdip hno
    exact ⟨hwords.mem, hwords.epoch⟩
  · exact params_of_touches (exec_touches h) hpower hdip hrow hbyte

end Sys2Proof.Machine
end

section
/-! SUPPORT. What the claimants choose among: the entries of the Write Queue, the reads, the entries of the Substitution
Table (R74, R83, R133, R135, R147); and the statements on grants and on the claimants' choices. -/

namespace Sys2Proof.Machine

set_option Elab.async false

/-! ## Eligible entries and waiting reads -/

theorem holds_iff (r : OutRead) (e : WriteEntry) :
    r.holds e = true ↔ r.addr = e.addr ∧ r.inTurn = false ∧ r.place < e.mark := by
  simp [OutRead.holds, and_assoc]

theorem eligible_iff (s : State) (e : WriteEntry) : eligible s.port.reads e = true ↔ Eligible s e := by
  rw [eligible, Bool.and_eq_true, Bool.not_eq_true', Bool.not_eq_true', Bool.eq_false_iff, ne_eq, heldBy,
    List.any_eq_true]
  simp only [holds_iff]
  exact and_comm

theorem waitsAt_iff (a : ArrayNo) (r : OutRead) : (decide (r.home.array = a) && !r.inTurn) = true ↔ WaitsAt a r := by
  simp [WaitsAt]

theorem drainable_iff (s : State) (a : ArrayNo) (e : WriteEntry) :
    (decide (e.array = a) && eligible s.port.reads e) = true ↔ e.array = a ∧ Eligible s e := by
  rw [Bool.and_eq_true, decide_eq_true_eq, eligible_iff]

theorem isCopying_iff (e : SubEntry) : e.isCopying = true ↔ e.phase ≠ .active := by
  unfold SubEntry.isCopying
  split
  next h => simp [h]
  next h => simp [h]

theorem copiesAt_iff (a : ArrayNo) (e : SubEntry) :
    (decide (e.array = a) && e.isCopying) = true ↔ e.array = a ∧ e.phase ≠ .active := by
  rw [Bool.and_eq_true, decide_eq_true_eq, isCopying_iff]

/-- The entry found is the lowest-numbered with the property. -/
theorem entryWhere_eq_some_iff {s : State} {p : SubEntry → Bool} {i : Fin 32} {e : SubEntry} :
    entryWhere s p = some (i, e) ↔
      s.subs.table.get i = some e ∧ p e = true ∧ ∀ j < i, ∀ x ∈ s.subs.table.get j, p x = false := by
  have hhere (j : Fin 32) : (match s.subs.table.get j with
      | some e => if p e then some (j, e) else none
      | none => none) = some (i, e) ↔ j = i ∧ s.subs.table.get j = some e ∧ p e = true := by
    cases s.subs.table.get j with
    | none => simp
    | some x =>
      by_cases hx : p x = true
      · simp only [hx, if_true, Option.some.injEq, Prod.mk.injEq]
        constructor
        · rintro ⟨rfl, rfl⟩
          exact ⟨rfl, rfl, hx⟩
        · rintro ⟨rfl, rfl, -⟩
          exact ⟨rfl, rfl⟩
      · simp only [hx, Option.some.injEq]
        constructor
        · nofun
        · rintro ⟨-, rfl, h⟩
          exact absurd h hx
  have hnone (j : Fin 32) : (match s.subs.table.get j with
      | some e => if p e then some (j, e) else none
      | none => none) = none ↔ ∀ x ∈ s.subs.table.get j, p x = false := by
    cases s.subs.table.get j <;> simp
  rw [entryWhere, findSome_finRange]
  constructor
  · rintro ⟨j, hj, hlow⟩
    obtain ⟨rfl, hget, hp⟩ := (hhere j).mp hj
    exact ⟨hget, hp, fun k hk => (hnone k).mp (hlow k hk)⟩
  · rintro ⟨hget, hp, hlow⟩
    exact ⟨i, (hhere i).mpr ⟨rfl, hget, hp⟩, fun k hk => (hnone k).mpr (hlow k hk)⟩

theorem entryWhere_isSome_iff {s : State} {p : SubEntry → Bool} :
    (entryWhere s p).isSome = true ↔ ∃ (i : Fin 32) (e : SubEntry), s.subs.table.get i = some e ∧ p e = true := by
  constructor
  · intro h
    obtain ⟨x, hx⟩ := Option.isSome_iff_exists.mp h
    exact ⟨x.1, x.2, entryWhere_some hx⟩
  · rintro ⟨i, e, hi, hp⟩
    cases h : entryWhere s p with
    | some _ => rfl
    | none => exact absurd hp (by rw [entryWhere_none h hi]; nofun)

/-! ## The claims that wait (R30, R31) -/

section
variable {s : State} {a : ArrayNo}

theorem claimWaiting_not_installed (h : s.params.arrays.count ≤ a.val) (k : TurnKind) : claimWaiting s a k = false := by
  simp [claimWaiting, installed, Nat.not_lt.mpr h]

theorem claimWaiting_hostRead (h : installed s a = true) :
    claimWaiting s a .hostRead = true ↔ ∃ r ∈ s.port.reads, WaitsAt a r := by
  simp only [claimWaiting, h, Bool.true_and, readChoice, List.find?_isSome, waitsAt_iff]

theorem claimWaiting_drain (h : installed s a = true) :
    claimWaiting s a .drain = true ↔ ∃ e ∈ s.queue, e.array = a ∧ Eligible s e := by
  simp only [claimWaiting, h, Bool.true_and, drainChoice, List.find?_isSome, drainable_iff]

theorem claimWaiting_peek (h : installed s a = true) : claimWaiting s a .peek = true ↔
    ∃ (q : Byte) (w : PhysIndex), s.link.lock = some { seq := q, command := .peek a w false } := by
  simp only [claimWaiting, h, Bool.true_and, peekChoice]
  split
  next q b w hl =>
    rw [hl]
    by_cases hb : b = a
    · simp [hb]
    · simp [hb]
  next hn => simpa using fun q w => hn q a w

theorem claimWaiting_copy (h : installed s a = true) : claimWaiting s a .copy = true ↔
    ∃ (i : Fin 32) (e : SubEntry), s.subs.table.get i = some e ∧ e.array = a ∧ e.phase ≠ .active := by
  simp only [claimWaiting, h, Bool.true_and, copyChoice, entryWhere_isSome_iff, copiesAt_iff]

theorem claimWaiting_migrate (h : installed s a = true) : claimWaiting s a .migrate = true ↔
    ∃ (k : CodedLane) (c : Nat) (o : RepairOrigin), s.steerOf a = .migrating k c o := by
  simp only [claimWaiting, h, Bool.true_and]
  cases s.steerOf a <;> simp

theorem claimWaiting_fill (h : installed s a = true) : claimWaiting s a .fill = true ↔
    ∃ i : PhysIndex, s.scrub.fill = some { array := a, index := i } := by
  simp only [claimWaiting, h, Bool.true_and]
  cases s.scrub.fill with
  | none => simp
  | some p =>
    obtain ⟨b, i⟩ := p
    simp

theorem claimWaiting_scrub (h : installed s a = true) : claimWaiting s a .scrub = true ↔
    s.scrub.claim = true ∧ s.scrub.cursor.array = a := by
  simp [claimWaiting, h]

end

/-! ## Grants (R32, R33) -/

section
variable {s : State} {a : ArrayNo}

theorem exec_turnGrant_none (h : grantChoice s a = none) : exec (.turnGrant a) s = .next s := by
  show execTurnGrant a s = .next s
  simp only [execTurnGrant, h]

theorem grantChoice_busy {t : Turn} (h : s.turn a = some t) : grantChoice s a = none := by
  rw [grantChoice, if_pos (by rw [h]; rfl)]

theorem grantChoice_of_no_claim (h : ∀ k, (permits s.path.path k && claimWaiting s a k) = false) :
    grantChoice s a = none := by
  rw [grantChoice]
  split
  · rfl
  · exact List.find?_eq_none.mpr fun k _ => Bool.eq_false_iff.mp (h k)

/-- The first in order whose claim waits and is permitted is granted. -/
theorem grantChoice_first {k : TurnKind} {before after : List TurnKind} (hidle : s.turn a = none)
    (horder : grantOrder (drainUrgent s) = before ++ k :: after)
    (hbefore : ∀ k' ∈ before, (permits s.path.path k' && claimWaiting s a k') = false)
    (hk : (permits s.path.path k && claimWaiting s a k) = true) : grantChoice s a = some k := by
  rw [grantChoice, if_neg (by rw [hidle]; nofun), List.find?_eq_some_iff_append]
  exact ⟨hk, before, after, horder, fun k' hk' => by rw [hbefore k' hk']; rfl⟩

/-- An urgent DRAIN comes first (R32, R138). -/
theorem grantOrder_drainUrgent (s : State) : grantOrder (drainUrgent s) =
    if s.params.highWater ≤ s.queue.length ∨ s.path.path = .draining ∨ s.path.path = .enteringQuiet
      then [.drain, .hostRead, .peek, .copy, .migrate, .fill, .scrub]
      else [.hostRead, .drain, .peek, .copy, .migrate, .fill, .scrub] := by
  simp [grantOrder, drainUrgent, or_assoc]

theorem permits_iff (p : PathState) (k : TurnKind) : permits p k = true ↔
    p = .setup ∨ p = .opened ∨ (p = .filling ∧ (k = .fill ∨ k = .drain ∨ k = .peek)) ∨
      ((p = .enteringQuiet ∨ p = .draining) ∧ (k = .hostRead ∨ k = .drain)) := by
  cases p <;> simp [permits, or_assoc]

end

/-- Settles O29: the grant by the order of precedence, the permitted kinds by the path state, each claim by its claimant. -/
theorem grantsFollowPrecedence : Obligations.GrantsFollowPrecedence := by
  refine ⟨fun s a => ⟨?busy, ?unclaimed, ?first⟩, permits_iff, fun s a => ⟨claimWaiting_not_installed, ?claims⟩⟩
  case busy => exact fun t ht => exec_turnGrant_none (grantChoice_busy ht)
  case unclaimed => exact fun h => exec_turnGrant_none (grantChoice_of_no_claim h)
  case first =>
    intro hidle k before after horder hbefore hpermits hclaim
    refine grantChoice_first hidle ((grantOrder_drainUrgent s).trans horder) hbefore ?_
    rw [hpermits, hclaim]
    rfl
  case claims =>
    intro ha
    have hi : installed s a = true := decide_eq_true ha
    exact ⟨claimWaiting_hostRead hi, claimWaiting_drain hi, claimWaiting_peek hi, claimWaiting_copy hi,
      claimWaiting_migrate hi, claimWaiting_fill hi, claimWaiting_scrub hi⟩

/-! ## The choices (R32, R74, R83, R114, R133 to R136) -/

/-- The list of reads is in take order, so the first that waits was taken earliest. -/
theorem readChoice_earliest {s : State} {a : ArrayNo} {r : OutRead} (hs : ReadsOk s) (h : readChoice s a = some r) :
    r ∈ s.port.reads ∧ WaitsAt a r ∧ ∀ x ∈ s.port.reads, WaitsAt a x → r.place ≤ x.place := by
  obtain ⟨-, -, horder, -⟩ := hs
  obtain ⟨hr, before, after, hreads, hbefore⟩ := List.find?_eq_some_iff_append.mp h
  rw [hreads] at horder ⊢
  refine ⟨by simp, (waitsAt_iff a r).mp hr, fun x hx hw => ?_⟩
  rcases List.mem_append.mp hx with hx | hx
  · have := hbefore x hx
    rw [(waitsAt_iff a x).mpr hw] at this
    cases this
  · rcases List.mem_cons.mp hx with rfl | hx
    · exact le_rfl
    · exact (List.rel_of_pairwise_cons (List.pairwise_append.mp horder).2.1 hx).le

/-- Distinct reads have distinct places (R143, R147). -/
theorem read_of_place {s : State} (hs : ReadsOk s) {r x : OutRead} (hr : r ∈ s.port.reads) (hx : x ∈ s.port.reads)
    (h : r.place = x.place) : r = x := by
  obtain ⟨-, -, horder, -⟩ := hs
  have hnodup : (s.port.reads.map OutRead.place).Nodup := (List.pairwise_map.mpr horder).imp ne_of_lt
  exact List.inj_on_of_nodup_map hnodup hr hx h

theorem readChoice_iff {s : State} {a : ArrayNo} {r : OutRead} (hs : ReadsOk s) : readChoice s a = some r ↔
    r ∈ s.port.reads ∧ WaitsAt a r ∧ ∀ x ∈ s.port.reads, WaitsAt a x → r.place ≤ x.place := by
  refine ⟨readChoice_earliest hs, fun ⟨hr, hw, hfirst⟩ => ?_⟩
  have hsome : (readChoice s a).isSome = true := List.find?_isSome.mpr ⟨r, hr, (waitsAt_iff a r).mpr hw⟩
  obtain ⟨x, hx⟩ := Option.isSome_iff_exists.mp hsome
  obtain ⟨hmem, hwx, hle⟩ := readChoice_earliest hs hx
  rw [hx, read_of_place hs hmem hr (le_antisymm (hle r hr hw) (hfirst x hmem hwx))]

theorem drainChoice_iff {s : State} {a : ArrayNo} {e : WriteEntry} : drainChoice s a = some e ↔
    ∃ before after : List WriteEntry, s.queue = before ++ e :: after ∧ e.array = a ∧ Eligible s e ∧
      ∀ x ∈ before, x.array = a → ¬Eligible s x := by
  have hskipped (x : WriteEntry) : (!(decide (x.array = a) && eligible s.port.reads x)) = true ↔
      (x.array = a → ¬Eligible s x) := by
    rw [Bool.not_eq_true', Bool.eq_false_iff, ne_eq, drainable_iff, not_and]
  rw [drainChoice, List.find?_eq_some_iff_append, drainable_iff]
  simp only [hskipped]
  constructor
  · rintro ⟨⟨ha, he⟩, before, after, hq, hb⟩
    exact ⟨before, after, hq, ha, he, hb⟩
  · rintro ⟨before, after, hq, ha, he, hb⟩
    exact ⟨⟨ha, he⟩, before, after, hq, hb⟩

theorem copyChoice_iff {s : State} {a : ArrayNo} {i : Fin 32} {e : SubEntry} : copyChoice s a = some (i, e) ↔
    s.subs.table.get i = some e ∧ e.array = a ∧ e.phase ≠ .active ∧
      ∀ j < i, ∀ x ∈ s.subs.table.get j, x.array = a → x.phase = .active := by
  have hskipped (x : SubEntry) : (decide (x.array = a) && x.isCopying) = false ↔ (x.array = a → x.phase = .active) := by
    rw [Bool.eq_false_iff, ne_eq, copiesAt_iff, not_and, not_not]
  rw [copyChoice, entryWhere_eq_some_iff, copiesAt_iff, and_assoc]
  simp only [hskipped]

theorem freeSpare_iff {s : State} {a : ArrayNo} {p : SpareNo} :
    freeSpare s a = some p ↔ s.spare a p = .free ∧ ∀ p' < p, s.spare a p' ≠ .free := by
  rw [freeSpare, find_finRange]
  simp

theorem freeSpare_none_iff {s : State} {a : ArrayNo} : freeSpare s a = none ↔ ∀ p : SpareNo, s.spare a p ≠ .free := by
  simp [freeSpare]

theorem freeEntry_iff {s : State} {i : Fin 32} :
    freeEntry s = some i ↔ s.subs.table.get i = none ∧ ∀ j < i, s.subs.table.get j ≠ none := by
  rw [freeEntry, find_finRange]
  simp [Option.isNone_iff_eq_none, Option.isSome_iff_ne_none]

theorem freeEntry_none_iff {s : State} : freeEntry s = none ↔ ∀ i : Fin 32, s.subs.table.get i ≠ none := by
  simp [freeEntry, Option.isNone_iff_eq_none]

theorem scrubRow_spare (s : State) (a : ArrayNo) {row : Nat} (h : hostRows ≤ row) : scrubRow s a row = row := by
  rw [scrubRow, if_pos h]

theorem scrubRow_of_no_entry {s : State} {a : ArrayNo} {row : Nat} (h : entryFor s a row = none) :
    scrubRow s a row = row := by
  rw [scrubRow, h]
  exact ite_self row

theorem scrubRow_of_active {s : State} (hs : SubsOk s) {i : Fin 32} {e : SubEntry} (hi : s.subs.table.get i = some e)
    (hp : e.phase = .active) : scrubRow s e.array e.hostRow = spareRow e.target := by
  have hrow : ¬hostRows ≤ e.hostRow := Nat.not_le.mpr (hs.1 i e hi).1
  simp only [scrubRow, if_neg hrow, entryFor_eq_some hs hi, hp]

theorem scrubRow_of_copying {s : State} (hs : SubsOk s) {i : Fin 32} {e : SubEntry} (hi : s.subs.table.get i = some e)
    {src : CopySource} {c : Nat} (hp : e.phase = .copying src c) : scrubRow s e.array e.hostRow = sourceRow e src := by
  have hrow : ¬hostRows ≤ e.hostRow := Nat.not_le.mpr (hs.1 i e hi).1
  simp only [scrubRow, if_neg hrow, entryFor_eq_some hs hi, hp]

theorem entryFor_iff {s : State} (hs : SubsOk s) {a : ArrayNo} {row : Nat} {i : Fin 32} {e : SubEntry} :
    entryFor s a row = some (i, e) ↔ s.subs.table.get i = some e ∧ e.array = a ∧ e.hostRow = row := by
  refine ⟨entryFor_some, ?_⟩
  rintro ⟨hi, rfl, rfl⟩
  exact entryFor_eq_some hs hi

/-- Settles O30: each choice function finds the first in its list or table. -/
theorem claimantsChooseByTheirRules : Obligations.ClaimantsChooseByTheirRules := by
  refine ⟨fun s a => ⟨fun r hs => readChoice_iff hs, fun e => drainChoice_iff, fun i e => copyChoice_iff,
    fun p => freeSpare_iff, freeSpare_none_iff, fun i => freeEntry_iff, freeEntry_none_iff⟩,
    fun s a row hs => ⟨fun i e => entryFor_iff hs, entryFor_eq_none_iff, scrubRow_spare s a,
      fun h => scrubRow_of_no_entry (entryFor_eq_none_iff.mpr h), ?_⟩⟩
  rintro i e hi rfl rfl
  exact ⟨fun c hp => scrubRow_of_copying hs hi hp, fun p c hp => scrubRow_of_copying hs hi hp,
    fun hp => scrubRow_of_active hs hi hp⟩

end Sys2Proof.Machine
end

section
/-! SUPPORT. The end of a turn (R34, R35): the state in which the turn's words stand in the arrays and its sequencer is idle,
over the state that knows what the turn has reported. -/

namespace Sys2Proof.Machine

set_option Elab.async false

/-! ## A turn ended -/

/-- The state with the words `m` in the arrays and the turn at `a` ended. -/
def State.ended (a : ArrayNo) (m : List (Nat × Stored)) (s : State) : State := endTurn a (s.withMem m)

/-- What holds when a turn at `a`, begun over `s`, has ended over `u`: nothing has changed but what the turn's occurrence may
change, the words, and the sequencer (R29, R34, R35). -/
structure TurnEnded (a : ArrayNo) (s u t : State) : Prop where
  setting : SameSetting s t
  only : OnlyTurnEnded a s t
  queue : t.queue = s.queue
  port : t.port = s.port
  scrub : t.scrub = s.scrub
  link : t.link = s.link
  control : SameControl u t

theorem ended_turnEnded {a : ArrayNo} {s u : State} (h : SameBeyondRepair s u) (r : ReachesAt a s u)
    (m : List (Nat × Stored)) : TurnEnded a s u (u.ended a m) where
  setting := ⟨h.params, h.busReset, h.supplyWarning, h.epoch, h.pending⟩
  only := ⟨(turn_setTurn ..).trans (if_pos rfl), fun b hb => ((turn_setTurn ..).trans (if_neg hb)).trans (r.others b hb)⟩
  queue := h.queue
  port := h.port
  scrub := h.scrub
  link := h.link
  control := ⟨rfl, rfl, rfl, rfl, rfl⟩

/-- The words of an ended turn are those it has left in the arrays. -/
theorem word_ended {v w : State} (h : w.epoch = v.epoch) (a b : ArrayNo) (j : PhysIndex) :
    (w.ended a v.mem).word b j = v.word b j :=
  word_congr (s := v) (t := w.ended a v.mem) rfl h b j

/-- An occurrence over an array that a turn has written: the occurrence, over those words (R35). -/
theorem report_over {s v : State} (h : v = s.withMem v.mem) (a : ArrayNo) (i : PhysIndex) (g : Origin) (d : Decoded) :
    report a i g d v = (report a i g d s).withMem v.mem :=
  (congrArg (report a i g d) h).trans (report_withMem ..)

theorem raise_ended (f : AlertFlag) (a : ArrayNo) (m : List (Nat × Stored)) (s : State) :
    raise f (s.ended a m) = (raise f s).ended a m := by
  unfold raise changeAlert
  rw [apply_ite (State.ended a m)]
  rfl

/-! ## A word read, and repaired (R8, R36, R42) -/

/-- The arrays after a turn has read a word whose lanes `flips` have changed, and has written the corrected word back for
FIXED where it repairs. -/
def afterRead (a : ArrayNo) (i : PhysIndex) (r : SteerRecord) (flips : Stored) (repair : Bool) (s : State) : State :=
  if repair then repairWrite a i r (decodeNow s a i r flips) (disturb a i flips s) else disturb a i flips s

/-- The word it leaves there. -/
def wordAfterRead (a : ArrayNo) (i : PhysIndex) (r : SteerRecord) (flips : Stored) (repair : Bool) (s : State) : Stored :=
  match (decodeNow s a i r flips).cls with
  | .fixed n =>
    if repair then withSpareLane r (invertLane (decodeNow s a i r flips).lanes n) else s.word a i ^^^ flips
  | .good | .poison | .blank | .fault => s.word a i ^^^ flips

theorem repairWrite_eq_withMem (a : ArrayNo) (i : PhysIndex) (r : SteerRecord) (d : Decoded) (s : State) :
    repairWrite a i r d s = s.withMem (repairWrite a i r d s).mem := by
  unfold repairWrite
  split <;> rfl

theorem afterRead_eq_withMem (a : ArrayNo) (i : PhysIndex) (r : SteerRecord) (flips : Stored) (repair : Bool) (s : State) :
    afterRead a i r flips repair s = s.withMem (afterRead a i r flips repair s).mem := by
  unfold afterRead
  split
  · rw [repairWrite_eq_withMem, disturb_eq_withMem]
    rfl
  · exact disturb_eq_withMem ..

theorem word_repairWrite (a b : ArrayNo) (i j : PhysIndex) (r : SteerRecord) (d : Decoded) (s : State) :
    (repairWrite a i r d s).word b j = match d.cls with
      | .fixed n => if b = a ∧ j = i then withSpareLane r (invertLane d.lanes n) else s.word b j
      | _ => s.word b j := by
  unfold repairWrite
  cases d.cls with
  | fixed n => exact word_setWord ..
  | _ => rfl

theorem word_afterRead (a b : ArrayNo) (i j : PhysIndex) (r : SteerRecord) (flips : Stored) (repair : Bool) (s : State) :
    (afterRead a i r flips repair s).word b j =
      if b = a ∧ j = i then wordAfterRead a i r flips repair s else s.word b j := by
  unfold afterRead wordAfterRead
  cases repair with
  | false =>
    simp only [Bool.false_eq_true, if_false, word_disturb]
    cases (decodeNow s a i r flips).cls <;> rfl
  | true =>
    simp only [if_true, word_repairWrite, word_disturb]
    cases (decodeNow s a i r flips).cls with
    | fixed n =>
      dsimp only
      split <;> rfl
    | _ => rfl

/-- The words an ended turn has left when it has read one, and perhaps repaired it. -/
theorem word_ended_afterRead {s u : State} (he : u.epoch = s.epoch) (a b : ArrayNo) (i j : PhysIndex) (r : SteerRecord)
    (flips : Stored) (repair : Bool) : (u.ended a (afterRead a i r flips repair s).mem).word b j =
      if b = a ∧ j = i then wordAfterRead a i r flips repair s else s.word b j := by
  rw [word_ended (he.trans (by rw [afterRead_eq_withMem]; rfl)), word_afterRead]

end Sys2Proof.Machine
end

section
/-! The statement on HOST-READ turns (R36, R132, R151). -/

namespace Sys2Proof.Machine

set_option Elab.async false

/-- The result of a HOST-READ touches the Host Port alone (R151). -/
theorem hostReadResult_frame (place : Nat) (d : Decoded) (s : State) :
    hostReadResult place d s = { s with port := (hostReadResult place d s).port } := by
  unfold hostReadResult
  split <;> rfl

theorem hostReadResult_port_some {place : Nat} {d : Decoded} {s : State} {x : OutRead}
    (h : s.port.reads.find? (fun y => y.place == place) = some x) : (hostReadResult place d s).port = { s.port with
      reads := s.port.reads.filter (fun y => y.place != place)
      answers := s.port.answers ++ [.read x.tag (readOutcome x.snapshot d).1
        (sentParity (readOutcome x.snapshot d).1 (readOutcome x.snapshot d).2.goodData) (readOutcome x.snapshot d).2] } := by
  simp only [hostReadResult, h]
  rfl

theorem hostReadResult_port_none {place : Nat} {d : Decoded} {s : State}
    (h : s.port.reads.find? (fun y => y.place == place) = none) : (hostReadResult place d s).port = s.port := by
  simp only [hostReadResult, h]

theorem exec_hostReadComplete {s : State} {a : ArrayNo} {flips : Stored} {place : Nat} {i : PhysIndex} {repair : Bool}
    {r : SteerRecord} (h : s.turn a = some { work := .hostRead place i repair, steer := r }) :
    exec (.hostReadComplete a flips) s = .next (hostReadResult place (decodeNow s a i r flips)
      ((report a i .hostRead (decodeNow s a i r flips) s).ended a (afterRead a i r flips repair s).mem)) := by
  show execHostReadComplete a flips s = _
  simp only [execHostReadComplete, h, completeHostRead, readIn_disturb]
  rw [State.ended, ← report_over (afterRead_eq_withMem ..)]
  rfl

/-- Settles O32: the word read and perhaps repaired, its occurrence, and the answer by the read's own record. -/
theorem hostReadCompletes : Obligations.HostReadCompletes := by
  intro s a flips place i repair r hturn
  refine ⟨_, exec_hostReadComplete hturn, ?_⟩
  have hsame := report_same a i .hostRead (decodeNow s a i r flips) s
  have hended := ended_turnEnded hsame (report_reachesAt a i .hostRead (decodeNow s a i r flips) s)
    (afterRead a i r flips repair s).mem
  have hword := word_ended_afterRead hsame.epoch a
  obtain ⟨hset, hend, hqueue, hport, hscrub, hlink, hcontrol⟩ := hended
  rw [hostReadResult_frame]
  refine ⟨hcontrol, hset, hend, hqueue, hscrub, hlink, ?_, fun b j hj => ?_, fun x hx => ?_, fun hnone => ?_⟩
  · refine (hword a i i r flips repair).trans ?_
    rw [if_pos ⟨rfl, rfl⟩, wordAfterRead]
    cases (decodeNow s a i r flips).cls <;> rfl
  · refine (hword b i j r flips repair).trans (if_neg fun h => hj ?_)
    exact ⟨h.1, List.mem_singleton.mpr h.2⟩
  · rw [← hport] at hx ⊢
    refine ⟨_, _, hostReadResult_port_some hx, fun hsnap => ?_, fun p hsnap => ?_⟩
    · simp only [readOutcome, hsnap, and_self]
    · simp only [readOutcome, hsnap, and_self]
  · rw [← hport] at hnone ⊢
    exact hostReadResult_port_none hnone

end Sys2Proof.Machine
end

section
/-! The statement on FILL turns (R41, R121). -/

namespace Sys2Proof.Machine

set_option Elab.async false

/-- The fill pattern: no data lane set, the check field the inversion mask (R4, R41). -/
theorem storedWord_fill (r : SteerRecord) : storedWord r 0 false = withSpareLane r (0x81#8 ++ 0#64) :=
  congrArg (withSpareLane r) (by decide +kernel)

theorem nextInstalled_eq_some {s : State} {a b : ArrayNo} (hb : b.val = a.val + 1) (hi : installed s b = true) :
    nextInstalled s a = some b := by
  simp only [nextInstalled, finOf?_some hb, hi, if_true]

theorem nextInstalled_eq_none {s : State} {a : ArrayNo} (h : s.params.arrays.count ≤ a.val + 1) :
    nextInstalled s a = none := by
  unfold nextInstalled
  split
  next b hb =>
    have hval := finOf?_eq_some hb
    rw [if_neg]
    simp only [installed, decide_eq_true_eq]
    omega
  · rfl

theorem nextFill_within {s : State} {a : ArrayNo} {i j : PhysIndex} (h : j.val = i.val + 1) :
    nextFill s a i = some { array := a, index := j } := by
  simp only [nextFill, finOf?_some h]

theorem finOf?_after_last {i : PhysIndex} (h : i.val = 33570815) : finOf? wordsPerArray (i.val + 1) = none :=
  finOf?_none (by rw [h])

theorem nextFill_array {s : State} {a b : ArrayNo} {i : PhysIndex} (hi : i.val = 33570815) (hb : b.val = a.val + 1)
    (hinst : installed s b = true) : nextFill s a i = some { array := b, index := 0 } := by
  simp only [nextFill, finOf?_after_last hi, nextInstalled_eq_some hb hinst]

theorem nextFill_end {s : State} {a : ArrayNo} {i : PhysIndex} (hi : i.val = 33570815)
    (ha : s.params.arrays.count ≤ a.val + 1) : nextFill s a i = none := by
  simp only [nextFill, finOf?_after_last hi, nextInstalled_eq_none ha]

theorem fillResult_next {s : State} {a : ArrayNo} {i : PhysIndex} {p : FillPos} (h : nextFill s a i = some p) :
    fillResult a i false s = { s with scrub := { s.scrub with fill := some p } } := by
  simp [fillResult, h]

theorem fillResult_end {s : State} {a : ArrayNo} {i : PhysIndex} (h : nextFill s a i = none) :
    fillResult a i false s = fillNotice (raise .fillDone { s with scrub := { s.scrub with fill := none } }) := by
  simp [fillResult, h]

/-- The fill completion notice touches the path state alone (R121, R161). -/
theorem fillNotice_frame (s : State) : fillNotice s = { s with path := (fillNotice s).path } := by
  unfold fillNotice
  split <;> rfl

/-- The result of a FILL turn touches the Scrubber, the alerts and the path state (R121). -/
theorem fillResult_frame (a : ArrayNo) (i : PhysIndex) (void : Bool) (s : State) : fillResult a i void s =
    { s with scrub := (fillResult a i void s).scrub, alert := (fillResult a i void s).alert,
             path := (fillResult a i void s).path } := by
  unfold fillResult
  split
  · rfl
  · split
    · rfl
    · rw [fillNotice_frame, raise_frame]

theorem fillNotice_filling {s : State} (h : s.path.path = .filling) :
    (fillNotice s).path = { s.path with path := .setup, resume := .setup } := by
  simp only [fillNotice, h]
  rfl

theorem fillNotice_paused {s : State} (h : s.path.path = .draining ∨ s.path.path = .frozen) :
    (fillNotice s).path = { s.path with resume := .setup } := by
  rcases h with h | h <;> simp only [fillNotice, h]

theorem raise_path_outside_quiet {f : AlertFlag} {s : State} (h : s.path.path ≠ .quiet) : (raise f s).path = s.path := by
  rw [raise_outside_quiet h]
  rfl

/-- What the last FILL turn of a pass leaves (R121, R161). -/
theorem fillResult_completes {s : State} {a : ArrayNo} {i : PhysIndex} (h : nextFill s a i = none) :
    (fillResult a i false s).scrub = { s.scrub with fill := none } ∧
    (fillResult a i false s).alert.flags = s.alert.flags ||| 0x100 ∧
    (s.path.path = .filling → (fillResult a i false s).path = { s.path with path := .setup, resume := .setup }) ∧
    (s.path.path = .draining ∨ s.path.path = .frozen →
      (fillResult a i false s).path = { s.path with resume := .setup }) := by
  have hpath (hp : s.path.path ≠ .quiet) :
      (raise .fillDone { s with scrub := { s.scrub with fill := none } }).path = s.path :=
    raise_path_outside_quiet (s := { s with scrub := { s.scrub with fill := none } }) hp
  rw [fillResult_end h]
  refine ⟨?_, ?_, fun hp => ?_, fun hp => ?_⟩
  · rw [fillNotice_frame, raise_frame]
  · rw [fillNotice_frame]
    exact congrArg AlertUnit.flags (raise_alert ..)
  · have hkept := hpath (by rw [hp]; nofun)
    rw [fillNotice_filling (by rw [hkept, hp]), hkept]
  · have hkept := hpath (by rcases hp with hp | hp <;> rw [hp] <;> nofun)
    rw [fillNotice_paused (by rwa [hkept]), hkept]

theorem exec_fillTurnComplete {s : State} {a : ArrayNo} {i : PhysIndex} {v : Bool} {r : SteerRecord}
    (h : s.turn a = some { work := .fill i v, steer := r }) : exec (.fillTurnComplete a) s =
      .next (fillResult a i v (s.ended a (s.setWord a i (storedWord r 0 false)).mem)) := by
  show execFillTurnComplete a s = _
  simp only [execFillTurnComplete, h]
  rfl

/-- Over a turn that has ended, the result of a FILL leaves alone all but the Scrubber, the alerts and the path state. -/
theorem fillResult_keeps_ended {s u : State} {a : ArrayNo} (h : TurnEnded a s s u) (i : PhysIndex) (v : Bool) :
    SameSetting s (fillResult a i v u) ∧ OnlyTurnEnded a s (fillResult a i v u) ∧
    (fillResult a i v u).queue = s.queue ∧ (fillResult a i v u).port = s.port ∧ (fillResult a i v u).link = s.link ∧
    (fillResult a i v u).map = s.map ∧ (fillResult a i v u).subs = s.subs ∧ (fillResult a i v u).steer = s.steer ∧
    ∀ b j, (fillResult a i v u).word b j = u.word b j := by
  obtain ⟨hmap, hsubs, hsteer, -, -⟩ := h.control
  rw [fillResult_frame]
  exact ⟨h.setting, h.only, h.queue, h.port, h.link, hmap, hsubs, hsteer, fun _ _ => rfl⟩

/-- Settles O36: the fill pattern written, then the cursor moved or the fill completed. -/
theorem fillTurnCompletes : Obligations.FillTurnCompletes := by
  intro s a i v r hturn
  refine ⟨_, exec_fillTurnComplete hturn, ?_⟩
  have hended : TurnEnded a s s (s.ended a (s.setWord a i (storedWord r 0 false)).mem) :=
    ended_turnEnded (.refl s) (.refl a s) _
  have hword (b : ArrayNo) (j : PhysIndex) : (s.ended a (s.setWord a i (storedWord r 0 false)).mem).word b j =
      if b = a ∧ j = i then storedWord r 0 false else s.word b j :=
    (word_ended (v := s.setWord a i (storedWord r 0 false)) rfl a b j).trans (word_setWord ..)
  generalize s.ended a (s.setWord a i (storedWord r 0 false)).mem = u at hended hword ⊢
  obtain ⟨hset, hend, hqueue, hport, hlink, hmap, hsubs, hsteer, hkept⟩ := fillResult_keeps_ended hended i v
  obtain ⟨-, -, -, halert, hpath⟩ := hended.control
  refine ⟨hset, hend, hqueue, hport, hlink, hmap, hsubs, hsteer, ?_, fun b j hj => ?_, ?_, ?_⟩
  · rw [hkept, hword, if_pos ⟨rfl, rfl⟩, storedWord_fill]
  · rw [hkept, hword, if_neg fun h => hj ⟨h.1, List.mem_singleton.mpr h.2⟩]
  · rintro rfl
    exact ⟨hended.scrub, halert, hpath⟩
  · rintro rfl
    obtain ⟨hparams, -⟩ := hended.setting
    rw [← hended.scrub, ← halert, ← hpath]
    refine ⟨fun j hj => ?_, fun b hi hb hinst => ?_, fun hi ha => fillResult_completes (nextFill_end hi ?_)⟩
    · rw [fillResult_next (nextFill_within hj)]
      exact ⟨rfl, rfl, rfl⟩
    · rw [fillResult_next (nextFill_array hi hb (by rwa [installed, hparams]))]
      exact ⟨rfl, rfl, rfl⟩
    · rwa [hparams]

end Sys2Proof.Machine
end

section
/-! The statement on PEEK (R44, R45). -/

namespace Sys2Proof.Machine

set_option Elab.async false

/-! ## The command (R44) -/

section
variable {s : State} {q : Byte} {args : List Byte}

theorem doPeek_refused (h : ¬Resumable s.path.path) : doPeek q args s = s.withReply q .refusedState [] := by
  unfold doPeek
  split
  next hp => exact absurd (.inl hp) h
  next hp => exact absurd (.inr (.inl hp)) h
  next hp => exact absurd (.inr (.inr hp)) h
  all_goals rfl

theorem doPeek_badArgument (h : Resumable s.path.path)
    (hn : installedArg s (argNat args 0 1) = none ∨ wordAt (argNat args 1 2) (argNat args 3 2) = none) :
    doPeek q args s = s.withReply q .badArgument [] := by
  -- By `hno` the match on the two arguments is not at its first alternative.
  have hno : ∀ (a : ArrayNo) (w : PhysIndex), installedArg s (argNat args 0 1) = some a →
      wordAt (argNat args 1 2) (argNat args 3 2) = some w → False := by
    rintro a w ha hw
    rcases hn with hn | hn
    · cases hn.symm.trans ha
    · cases hn.symm.trans hw
  rcases h with h | h | h <;> simp only [doPeek, h] <;> rfl

theorem doPeek_accepted (h : Resumable s.path.path) {a : ArrayNo} {w : PhysIndex}
    (ha : installedArg s (argNat args 0 1) = some a) (hw : wordAt (argNat args 1 2) (argNat args 3 2) = some w) :
    doPeek q args s = acceptPeek q a w s := by
  rcases h with h | h | h <;> simp only [doPeek, h, ha, hw]

/-- A frame of PEEK with its five argument bytes, executed (R189). -/
theorem exec_peek {a r1 r0 c1 c0 : Byte} {rest : List Byte}
    (h : WillExecute q (a :: r1 :: r0 :: c1 :: c0 :: rest) s) :
    exec (.peek q (a :: r1 :: r0 :: c1 :: c0 :: rest)) s = .next (doPeek q (a :: r1 :: r0 :: c1 :: c0 :: rest) s) :=
  exec_row_executes (c := .peek) h (Nat.le_add_left 5 rest.length)

end

theorem wordAt_none {row column : Nat} (h : physRows ≤ row ∨ columns ≤ column) : wordAt row column = none :=
  if_neg fun ⟨hc, hr⟩ => h.elim (Nat.not_le.mpr hr) (Nat.not_le.mpr hc)

/-! ## The turn (R45) -/

theorem peekBytes_eq (w : Stored) (c : WordClass) : peekBytes w c =
    [w.extractLsb' 0 8, w.extractLsb' 8 8, w.extractLsb' 16 8, w.extractLsb' 24 8, w.extractLsb' 32 8,
     w.extractLsb' 40 8, w.extractLsb' 48 8, w.extractLsb' 56 8, w.extractLsb' 64 8,
     if w.getLsbD 72 then 1 else 0, c.code] := rfl

theorem answerPeek_granted {s : State} {q : Byte} {b : ArrayNo} {w : PhysIndex}
    (h : s.link.lock = some { seq := q, command := .peek b w true }) (result : List Byte) :
    answerPeek result s = unlock (reply q .ok result s) := by
  simp only [answerPeek, h]

theorem exec_peekTurnComplete {s : State} {a : ArrayNo} {flips : Stored} {i : PhysIndex} {r : SteerRecord}
    (h : s.turn a = some { work := .peek i, steer := r }) : exec (.peekTurnComplete a flips) s =
      .next (answerPeek (peekBytes (s.word a i ^^^ flips) (decodeNow s a i r flips).cls)
        (s.ended a (disturb a i flips s).mem)) := by
  show execPeekTurnComplete a flips s = _
  simp only [execPeekTurnComplete, h, readIn_disturb, disturb_word_self]
  rw [State.ended, ← disturb_eq_withMem]

/-- Settles O56: the command by path state and arguments, the turn by the word it finds. -/
theorem peekAnswersTheStoredWord : Obligations.PeekAnswersTheStoredWord := by
  refine ⟨fun s q a r1 r0 c1 c0 rest hexec => ?command, fun s a b flips i w r q hturn hlock => ?turn⟩
  case command =>
    rw [exec_peek hexec]
    refine ⟨fun hp => congrArg _ (doPeek_refused hp), fun hp => ⟨fun hbad => ?_, fun n w hn hinst hc hw => ?_⟩⟩
    · refine congrArg _ (doPeek_badArgument hp ?_)
      rw [argNat_0_1, argNat_1_2, argNat_3_2]
      rcases hbad with h | h | h
      · exact .inl (installedArg_none h)
      · exact .inr (wordAt_none (.inl h))
      · exact .inr (wordAt_none (.inr h))
    · refine congrArg _ (doPeek_accepted hp ?_ ?_)
      · rw [argNat_0_1]
        exact installedArg_some hn hinst
      · rw [argNat_1_2, argNat_3_2]
        exact wordAt_eq_some (Nat.lt_succ_of_le hc) hw
  case turn =>
    refine ⟨_, exec_peekTurnComplete hturn, ?_⟩
    obtain ⟨hset, hend, hqueue, hport, hscrub, hlink, hcontrol⟩ :=
      ended_turnEnded (.refl s) (.refl a s) (disturb a i flips s).mem
    have hword (b : ArrayNo) (j : PhysIndex) : (s.ended a (disturb a i flips s).mem).word b j =
        if b = a ∧ j = i then s.word a i ^^^ flips else s.word b j :=
      (word_ended (disturb_epoch a i flips s).symm a b j).trans (word_disturb ..)
    rw [answerPeek_granted (hlink ▸ hlock)]
    refine ⟨hcontrol, hset, hend, hqueue, hport, hscrub, (hword a i).trans (if_pos ⟨rfl, rfl⟩), fun b j hj => ?_, ?_⟩
    · exact (hword b j).trans (if_neg fun h => hj ⟨h.1, List.mem_singleton.mpr h.2⟩)
    · rw [peekBytes_eq]
      rfl

end Sys2Proof.Machine
end

section
/-! The statement on SCRUB turns (R42, R112, R113, R117, R118). -/

namespace Sys2Proof.Machine

set_option Elab.async false

/-! ## The walk over an ended turn -/

/-- The walk reads the installed arrays and the Substitution Table, which a turn's end leaves alone (R113). -/
theorem seekRow_ended (a b : ArrayNo) (m : List (Nat × Stored)) (s : State) (n row : Nat) :
    seekRow (s.ended a m) n b row = seekRow s n b row := by
  induction n generalizing b row with
  | zero => rfl
  | succ n ih =>
    simp only [seekRow, ih]
    rfl

theorem firstPosition_ended (a : ArrayNo) (m : List (Nat × Stored)) (s : State) :
    firstPosition (s.ended a m) = firstPosition s := by
  simp only [firstPosition, seekRow_ended]

/-- The Fault Map aged by the pass that ends, and the pass number one higher (R118). -/
def passAged (s : State) : State :=
  { s with
    map := s.map.aged s.scrub.pass
    scrub := { s.scrub with pass := s.scrub.pass + 1 } }

theorem completePass_eq (s : State) : completePass s =
    setCursor (firstPosition (raise .pass (passAged s))) (raise .pass (passAged s)) := rfl

theorem passAged_ended (a : ArrayNo) (m : List (Nat × Stored)) (s : State) :
    passAged (s.ended a m) = (passAged s).ended a m := rfl

theorem setCursor_ended (p : ScrubPos) (a : ArrayNo) (m : List (Nat × Stored)) (s : State) :
    setCursor p (s.ended a m) = (setCursor p s).ended a m := rfl

theorem scrub_ended (a : ArrayNo) (m : List (Nat × Stored)) (s : State) : (s.ended a m).scrub = s.scrub := rfl

theorem completePass_ended (a : ArrayNo) (m : List (Nat × Stored)) (s : State) :
    completePass (s.ended a m) = (completePass s).ended a m := by
  rw [completePass_eq, completePass_eq, passAged_ended, raise_ended, firstPosition_ended, setCursor_ended]

/-! ## The result of a SCRUB turn (R117) -/

theorem scrubResult_moves (s : State) : scrubResult false s = advanceCursor s := rfl

theorem advanceCursor_within {s : State} (h : s.scrub.cursor.column < 1023) :
    advanceCursor s = setCursor { s.scrub.cursor with column := s.scrub.cursor.column + 1 } s :=
  if_pos (Nat.succ_lt_succ h)

theorem advanceCursor_seek {s : State} {b : ArrayNo} {row : Nat} (h : 1023 ≤ s.scrub.cursor.column)
    (hseek : seekRow s walkFuel s.scrub.cursor.array (s.scrub.cursor.row + 1) = some (b, row)) :
    advanceCursor s = setCursor { array := b, row := row, column := 0 } s := by
  rw [advanceCursor, if_neg (Nat.not_lt.mpr (Nat.succ_le_succ h)), hseek]

theorem advanceCursor_end {s : State} (h : 1023 ≤ s.scrub.cursor.column)
    (hseek : seekRow s walkFuel s.scrub.cursor.array (s.scrub.cursor.row + 1) = none) :
    advanceCursor s = completePass s := by
  rw [advanceCursor, if_neg (Nat.not_lt.mpr (Nat.succ_le_succ h)), hseek]

/-- A pass completion over an ended turn is the completion, and then the turn's end (R117, R118). -/
theorem advanceCursor_end_ended {s : State} (h : 1023 ≤ s.scrub.cursor.column)
    (hseek : seekRow s walkFuel s.scrub.cursor.array (s.scrub.cursor.row + 1) = none) (a : ArrayNo)
    (m : List (Nat × Stored)) : advanceCursor (s.ended a m) = (advanceCursor s).ended a m := by
  rw [advanceCursor_end h hseek, advanceCursor_end (scrub_ended a m s ▸ h) (by rw [scrub_ended, seekRow_ended, hseek]),
    completePass_ended]

/-- A move of the cursor touches the Scrubber, and a pass completion the Fault Map, the alerts and the path state besides
(R117, R118). -/
theorem advanceCursor_frame (s : State) : advanceCursor s =
    { s with map := (advanceCursor s).map, scrub := (advanceCursor s).scrub, alert := (advanceCursor s).alert,
             path := (advanceCursor s).path } := by
  unfold advanceCursor
  split
  · rfl
  · split
    · rfl
    · unfold completePass
      dsimp only
      rw [raise_frame]
      rfl

theorem scrubResult_keeps_ended {s u t : State} {a : ArrayNo} (h : TurnEnded a s u t) (left : Bool) :
    SameSetting s (scrubResult left t) ∧ OnlyTurnEnded a s (scrubResult left t) ∧
    (scrubResult left t).queue = s.queue ∧ (scrubResult left t).port = s.port ∧ (scrubResult left t).link = s.link ∧
    (scrubResult left t).subs = u.subs ∧ (scrubResult left t).steer = u.steer ∧
    ∀ b j, (scrubResult left t).word b j = t.word b j := by
  obtain ⟨-, hsubs, hsteer, -, -⟩ := h.control
  cases left with
  | true => exact ⟨h.setting, h.only, h.queue, h.port, h.link, hsubs, hsteer, fun _ _ => rfl⟩
  | false =>
    rw [scrubResult_moves, advanceCursor_frame]
    exact ⟨h.setting, h.only, h.queue, h.port, h.link, hsubs, hsteer, fun _ _ => rfl⟩

theorem exec_scrubTurnComplete {s : State} {a : ArrayNo} {flips : Stored} {w : PhysIndex} {left : Bool} {r : SteerRecord}
    (h : s.turn a = some { work := .scrub w left, steer := r }) : exec (.scrubTurnComplete a flips) s =
      .next (scrubResult left ((report a w .scrub (decodeNow s a w r flips) s).ended a
        (afterRead a w r flips true s).mem)) := by
  show execScrubTurnComplete a flips s = _
  simp only [execScrubTurnComplete, h, readIn_disturb]
  rw [State.ended, ← report_over (afterRead_eq_withMem ..)]
  rfl

/-- Settles O37: the word read and repaired, its occurrence, then the cursor by where it stands. -/
theorem scrubTurnCompletes : Obligations.ScrubTurnCompletes := by
  intro s a flips w left r hturn
  refine ⟨_, exec_scrubTurnComplete hturn, ?_⟩
  have hsame := report_same a w .scrub (decodeNow s a w r flips) s
  have hended := ended_turnEnded hsame (report_reachesAt a w .scrub (decodeNow s a w r flips) s)
    (afterRead a w r flips true s).mem
  have hword := fun b j => word_ended_afterRead hsame.epoch a b w j r flips true
  generalize report a w .scrub (decodeNow s a w r flips) s = u at hsame hended hword ⊢
  obtain ⟨hset, hend, hqueue, hport, hlink, hsubs, hsteer, hkept⟩ := scrubResult_keeps_ended hended left
  refine ⟨hset, hend, hqueue, hport, hlink, ?_, fun b j hj => ?_, hsubs, hsteer, ?_, ?_, ?_, ?_⟩
  · rw [hkept, hword, if_pos ⟨rfl, rfl⟩, wordAfterRead]
    cases (decodeNow s a w r flips).cls <;> rfl
  · rw [hkept, hword, if_neg fun h => hj ⟨h.1, List.mem_singleton.mpr h.2⟩]
  · rintro rfl
    exact ⟨hended.control, hended.scrub⟩
  · rintro rfl hcol
    rw [← hended.scrub] at hcol ⊢
    rw [scrubResult_moves, advanceCursor_within hcol]
    exact ⟨hended.control, rfl⟩
  · rintro b row rfl hcol hseek
    rw [← hended.scrub] at hcol hseek ⊢
    rw [scrubResult_moves, advanceCursor_seek hcol ((seekRow_ended ..).trans hseek)]
    exact ⟨hended.control, rfl⟩
  · rintro rfl hcol hseek
    rw [← hsame.scrub] at hcol hseek
    rw [scrubResult_moves, advanceCursor_end_ended hcol hseek]
    exact ⟨⟨rfl, rfl, rfl, rfl, rfl⟩, rfl⟩

end Sys2Proof.Machine
end

section
/-! SUPPORT. What stays within a relation through an occurrence, when each of its parts does (R52 to R63); and the work in
hand through the condemnations (R83, R101). -/

namespace Sys2Proof.Machine

set_option Elab.async false

/-! ## An occurrence by its parts -/

/-- A relation between states that every part of an occurrence stays within: alerts, changes of the Fault Map, and the
condemnations of its row and, for FIXED, of its lane (R57, R60 to R63). -/
structure AllowsOccurrence (o : Occurrence) (R : State → State → Prop) : Prop where
  refl : ∀ s, R s s
  trans : ∀ {s t u}, R s t → R t u → R s u
  raise : ∀ f s, R s (raise f s)
  withMap : ∀ m s, R s { s with map := m }
  row : ∀ s, R s (condemnRowEngine true o.array o.row s).1
  lane : ∀ l s, o.error = .fixed l → R s (condemnLaneEngine true o.array l s).1

section
variable {o : Occurrence} {R : State → State → Prop} (h : AllowsOccurrence o R)
include h

theorem AllowsOccurrence.condemnRow (s : State) : R s (condemnRow o.array o.row s) :=
  h.trans (h.trans (h.withMap _ s) (h.row _)) (h.raise ..)

theorem AllowsOccurrence.condemnLane {l : PhysLane} (hl : o.error = .fixed l) (s : State) :
    R s (condemnLane o.array l s) :=
  h.trans (h.trans (h.withMap _ s) (h.lane l _ hl)) (h.raise ..)

theorem AllowsOccurrence.laneTriggers {l : PhysLane} (hl : o.error = .fixed l) (s : State) :
    R s (laneTriggers o l s) := by
  unfold Machine.laneTriggers
  dsimp only
  split <;> split
  · exact h.trans (h.condemnRow s) (h.condemnLane hl _)
  · exact h.condemnLane hl s
  · exact h.condemnRow s
  · exact h.refl s

theorem AllowsOccurrence.triggers (b : Bool) (s : State) : R s (triggers o b s) := by
  unfold Machine.triggers
  split
  · exact h.condemnRow s
  · exact h.refl s
  next l hl =>
    split
    · exact h.laneTriggers hl s
    · exact h.refl s

theorem AllowsOccurrence.deliver (s : State) : R s (deliver o s) := by
  unfold Machine.deliver
  dsimp only
  split
  · exact h.trans (h.trans (h.raise ..) (h.withMap ..)) (h.triggers ..)
  · exact h.trans (h.trans (h.raise ..) (h.raise ..)) (h.triggers ..)

end

/-- What a turn's report stays within: it delivers an occurrence or nothing (R26, R43). -/
theorem report_within {R : State → State → Prop} {a : ArrayNo} {i : PhysIndex} {g : Origin} {d : Decoded} {s : State}
    (refl : R s s) (h : ∀ e, d.error = some e →
      AllowsOccurrence { array := a, row := rowOf i, column := columnOf i, error := e, origin := g } R) :
    R s (report a i g d s) := by
  cases he : d.error with
  | none => rwa [report_none he]
  | some e =>
    rw [report_some he]
    exact (h e he).deliver s

/-! ## The turns through the condemnations -/

theorem mapTurn_turns_congr {s t : State} (h : t.turns = s.turns) (a : ArrayNo) (f : TurnWork → TurnWork) :
    (mapTurn a f t).turns = (mapTurn a f s).turns := by
  have hturn : t.turn a = s.turn a := by rw [State.turn, h, State.turn]
  simp only [mapTurn, hturn]
  cases s.turn a with
  | none => exact h
  | some x => simp only [State.setTurn_turns, h]

/-- A row condemnation leaves the turns, or makes a copy in hand void (R80, R83). -/
theorem condemnRowEngine_turns (auto : Bool) (a : ArrayNo) (row : Nat) (s : State) :
    (condemnRowEngine auto a row s).1.turns = s.turns ∨
      ∃ j, (condemnRowEngine auto a row s).1.turns = (voidCopy a j s).turns := by
  unfold condemnRowEngine
  split
  · left
    unfold condemnHostRow
    split
    · rfl
    · split
      · rfl
      · split
        · rfl
        · exact raise_turns ..
  · split
    · unfold condemnSpare
      split
      · exact .inl rfl
      next i e _ =>
        split
        · left
          unfold retarget
          split
          · rfl
          · split
            · rfl
            · exact raise_turns ..
        · refine .inr ⟨i, ?_⟩
          unfold replaceTarget
          dsimp only
          have hretired : (voidCopy a i (setSpare a e.target .retired s)).turns = (voidCopy a i s).turns :=
            mapTurn_turns_congr (s := s) (t := setSpare a e.target .retired s) rfl ..
          split
          · exact hretired
          · rw [raise_turns]
            exact hretired
    · exact .inl rfl

/-- A lane condemnation leaves the turns, or makes a migration in hand void (R99, R101). -/
theorem condemnLaneEngine_turns (auto : Bool) (a : ArrayNo) (l : PhysLane) (s : State) :
    (condemnLaneEngine auto a l s).1.turns = s.turns ∨
      (condemnLaneEngine auto a l s).1.turns = (mapTurn a TurnWork.voidMigration s).turns := by
  unfold condemnLaneEngine
  split
  · left
    unfold condemnCodedLane
    split
    · split <;> rfl
    · split
      · rfl
      · split
        · rfl
        · exact raise_turns ..
  · unfold condemnSpareLane
    split
    · exact .inl rfl
    · right
      rw [raise_turns]
      exact mapTurn_turns_congr (s := s) (t := setSteer a .normal s) rfl ..
    · left
      exact raise_turns ..

theorem turn_congr {s t : State} (h : t.turns = s.turns) (a : ArrayNo) : t.turn a = s.turn a := by
  rw [State.turn, h, State.turn]

theorem turn_mapTurn_of_some {s : State} {a : ArrayNo} {w : TurnWork} {r : SteerRecord}
    (h : s.turn a = some { work := w, steer := r }) (f : TurnWork → TurnWork) :
    (mapTurn a f s).turn a = some { work := f w, steer := r } := by
  rw [mapTurn_turn, if_pos rfl, h]
  rfl

/-- A migration in hand is no copy, which alone a row condemnation makes void (R83). -/
theorem condemnRowEngine_migration {s : State} {a : ArrayNo} {k : CodedLane} {i : PhysIndex} {v : Bool} {r : SteerRecord}
    (h : s.turn a = some { work := .migrate k i v, steer := r }) (auto : Bool) (row : Nat) :
    (condemnRowEngine auto a row s).1.turn a = s.turn a := by
  rcases condemnRowEngine_turns auto a row s with ht | ⟨j, ht⟩
  · exact turn_congr ht a
  · rw [turn_congr ht a, voidCopy, turn_mapTurn_of_some h, h]
    rfl

/-- A copy in hand is no migration, which alone a lane condemnation makes void (R101). -/
theorem condemnLaneEngine_copy {s : State} {a : ArrayNo} {h : CopyHand} {sw tw : PhysIndex} {r : SteerRecord}
    (hturn : s.turn a = some { work := .copy h sw tw, steer := r }) (auto : Bool) (l : PhysLane) :
    (condemnLaneEngine auto a l s).1.turn a = s.turn a := by
  rcases condemnLaneEngine_turns auto a l s with ht | ht
  · exact turn_congr ht a
  · rw [turn_congr ht a, turn_mapTurn_of_some hturn, hturn]
    rfl

/-! ## The work in hand -/

/-- The copy or migration in hand at `a` is still there, and void if it was: what an occurrence can do to it (R83, R101). -/
structure HandKept (a : ArrayNo) (s t : State) : Prop where
  copy : ∀ h sw tw r, s.turn a = some { work := .copy h sw tw, steer := r } →
    ∃ v, (h.void = true → v = true) ∧ t.turn a = some { work := .copy { h with void := v } sw tw, steer := r }
  migration : ∀ k i v r, s.turn a = some { work := .migrate k i v, steer := r } →
    ∃ v', (v = true → v' = true) ∧ t.turn a = some { work := .migrate k i v', steer := r }

theorem HandKept.of_turn {a : ArrayNo} {s t : State} (h : t.turn a = s.turn a) : HandKept a s t where
  copy hand _ _ _ ht := ⟨hand.void, id, h.trans ht⟩
  migration _ _ v _ ht := ⟨v, id, h.trans ht⟩

theorem HandKept.trans {a : ArrayNo} {s t u : State} (h : HandKept a s t) (g : HandKept a t u) : HandKept a s u where
  copy hand sw tw r ht := by
    obtain ⟨v, hv, ht⟩ := h.copy hand sw tw r ht
    obtain ⟨v', hv', hu⟩ := g.copy _ sw tw r ht
    exact ⟨v', hv' ∘ hv, hu⟩
  migration k i v r ht := by
    obtain ⟨v', hv, ht⟩ := h.migration k i v r ht
    obtain ⟨v'', hv', hu⟩ := g.migration k i v' r ht
    exact ⟨v'', hv' ∘ hv, hu⟩

theorem voidCopy_handKept (a : ArrayNo) (j : Fin 32) (s : State) : HandKept a s (voidCopy a j s) where
  copy h sw tw r ht := by
    rw [voidCopy, turn_mapTurn_of_some ht, TurnWork.voidCopy]
    split
    · exact ⟨true, fun _ => rfl, rfl⟩
    · exact ⟨h.void, id, rfl⟩
  migration _ _ v _ ht := ⟨v, id, turn_mapTurn_of_some ht _⟩

theorem voidMigration_handKept (a : ArrayNo) (s : State) : HandKept a s (mapTurn a TurnWork.voidMigration s) where
  copy h _ _ _ ht := ⟨h.void, id, turn_mapTurn_of_some ht _⟩
  migration _ _ _ _ ht := ⟨true, fun _ => rfl, turn_mapTurn_of_some ht _⟩

theorem handKept_allows (o : Occurrence) : AllowsOccurrence o (HandKept o.array) where
  refl s := .of_turn rfl
  trans := HandKept.trans
  raise f s := .of_turn (turn_congr (raise_turns f s) _)
  withMap m s := .of_turn rfl
  row s := by
    rcases condemnRowEngine_turns true o.array o.row s with ht | ⟨j, ht⟩
    · exact .of_turn (turn_congr ht _)
    · exact (voidCopy_handKept o.array j s).trans (.of_turn (turn_congr ht _))
  lane l s _ := by
    rcases condemnLaneEngine_turns true o.array l s with ht | ht
    · exact .of_turn (turn_congr ht _)
    · exact (voidMigration_handKept o.array s).trans (.of_turn (turn_congr ht _))

theorem report_handKept (a : ArrayNo) (i : PhysIndex) (g : Origin) (d : Decoded) (s : State) :
    HandKept a s (report a i g d s) :=
  report_within (.of_turn rfl) fun _ _ => handKept_allows _

end Sys2Proof.Machine
end

section
/-! SUPPORT. A word read and another written for it (R39, R40). -/

namespace Sys2Proof.Machine

set_option Elab.async false

/-- The arrays after a turn has read the word at `i`, whose lanes `flips` have changed, and has written at `j` what it makes
of that word. -/
def afterRewrite (a : ArrayNo) (i j : PhysIndex) (r : SteerRecord) (flips : Stored) (s : State) : State :=
  (disturb a i flips s).setWord a j (rewritten r (decodeNow s a i r flips))

theorem afterRewrite_eq_withMem (a : ArrayNo) (i j : PhysIndex) (r : SteerRecord) (flips : Stored) (s : State) :
    afterRewrite a i j r flips s = s.withMem (afterRewrite a i j r flips s).mem := by
  unfold afterRewrite
  rw [disturb_eq_withMem]
  rfl

/-- The words an ended turn has left when it has read one and written for it. -/
theorem word_ended_afterRewrite {s u : State} (he : u.epoch = s.epoch) (a b : ArrayNo) (i j k : PhysIndex)
    (r : SteerRecord) (flips : Stored) : (u.ended a (afterRewrite a i j r flips s).mem).word b k =
      if b = a ∧ k = j then rewritten r (decodeNow s a i r flips)
      else if b = a ∧ k = i then s.word a i ^^^ flips else s.word b k := by
  rw [word_ended (he.trans (by rw [afterRewrite_eq_withMem]; rfl)), afterRewrite, word_setWord, word_disturb]

/-- What is written is clean for GOOD and FIXED, and poisoned for the rest (R39, R40). -/
theorem rewritten_eq (r : SteerRecord) (d : Decoded) : rewritten r d = storedWord r d.data (match d.cls with
    | .good => false
    | .fixed _ => false
    | _ => true) := congrArg (storedWord r d.data) (bad_eq d)

end Sys2Proof.Machine
end

section
/-! The statement on COPY turns (R39, R78, R81, R84, R85). -/

namespace Sys2Proof.Machine

set_option Elab.async false

/-! ## An occurrence on a row that is being copied (R78, R81) -/

theorem spareOfRow_spareRow (t : SpareNo) : spareOfRow (spareRow t) = some t := by
  rw [spareOfRow, spareRow, if_pos (Nat.le_add_right ..)]
  exact finOf?_some (by omega)

/-- A copy in hand's entry, whose copy reads this row of array `a` (R73). -/
def CopiesRow (a : ArrayNo) (row : Nat) (s : State) : Prop :=
  SubsOk s ∧ ∃ (i : Fin 32) (e : SubEntry) (src : CopySource) (c : Nat), s.subs.table.get i = some e ∧ e.array = a ∧
    e.phase = .copying src c ∧ sourceRow e src = row

theorem CopiesRow.of_subs {a : ArrayNo} {row : Nat} {s t : State} (h : CopiesRow a row s) (ht : t.subs = s.subs) :
    CopiesRow a row t := by
  obtain ⟨hs, i, e, src, c, hi, hrest⟩ := h
  exact ⟨subsOk_congr ht hs, i, e, src, c, by rw [ht, hi], hrest⟩

/-- No entry writes the spare that a copy reads (R74). -/
theorem no_target_of_source {s : State} (hs : SubsOk s) {i : Fin 32} {e : SubEntry} (hi : s.subs.table.get i = some e)
    {t : SpareNo} {c : Nat} (hp : e.phase = .copying (.spare t) c) :
    entryWhere s (fun x => decide (x.array = e.array ∧ x.target = t)) = none := by
  cases hf : entryWhere s (fun x => decide (x.array = e.array ∧ x.target = t)) with
  | none => rfl
  | some x =>
    obtain ⟨j, f⟩ := x
    obtain ⟨hj, hft⟩ := entryWhere_some hf
    obtain ⟨ha, rfl⟩ := of_decide_eq_true hft
    have hsource : usesAt e.array f.target (s.subs.table.get i) := by
      rw [hi, usesAt_of_source hp]
      exact ⟨rfl, .inr rfl⟩
    have htarget : usesAt e.array f.target (s.subs.table.get j) := by
      rw [hj, usesAt_some, uses_iff]
      exact ⟨ha.symm, .inl rfl⟩
    obtain rfl := hs.user_unique hsource htarget
    obtain rfl : e = f := Option.some.inj (hi.symm.trans hj)
    have hne := (hs.1 i e hi).2.1
    simp [SubEntry.sourceIs, hp] at hne

/-- A condemnation of a row that a copy reads is ignored: the copy is under way (R78, R81). -/
theorem condemnRowEngine_source {a : ArrayNo} {row : Nat} {s : State} (h : CopiesRow a row s) (auto : Bool) :
    condemnRowEngine auto a row s = (s, .ignored) := by
  obtain ⟨hs, i, e, src, c, hi, rfl, hp, rfl⟩ := h
  cases src with
  | hostRow =>
    have hrow : e.hostRow < hostRows := (hs.1 i e hi).1
    simp only [condemnRowEngine, sourceRow, if_pos hrow, condemnHostRow, entryFor_eq_some hs hi]
  | spare t =>
    have hrow : ¬spareRow t < hostRows := Nat.not_lt.mpr (Nat.le_add_right ..)
    simp only [condemnRowEngine, sourceRow, if_neg hrow, spareOfRow_spareRow, condemnSpare, no_target_of_source hs hi hp]

/-- What an occurrence on a row that is being copied leaves alone: the tables and the copy in hand. -/
structure CopyUntouched (a : ArrayNo) (s t : State) : Prop where
  subs : t.subs = s.subs
  hand : ∀ h sw tw r, s.turn a = some { work := .copy h sw tw, steer := r } → t.turn a = s.turn a

theorem CopyUntouched.of_eq {a : ArrayNo} {s t : State} (hs : t.subs = s.subs) (ht : t.turns = s.turns) :
    CopyUntouched a s t := ⟨hs, fun _ _ _ _ _ => turn_congr ht a⟩

theorem CopyUntouched.trans {a : ArrayNo} {s t u : State} (h : CopyUntouched a s t) (g : CopyUntouched a t u) :
    CopyUntouched a s u where
  subs := g.subs.trans h.subs
  hand hand sw tw r hs :=
    have ht := h.hand hand sw tw r hs
    (g.hand hand sw tw r (ht.trans hs)).trans ht

theorem copyUntouched_allows (o : Occurrence) :
    AllowsOccurrence o (fun s t => CopiesRow o.array o.row s → CopyUntouched o.array s t) where
  refl s _ := .of_eq rfl rfl
  trans h g hs := (h hs).trans (g (hs.of_subs (h hs).subs))
  raise f s _ := .of_eq (raise_subs f s) (raise_turns f s)
  withMap m s _ := .of_eq rfl rfl
  row s hs := by
    rw [condemnRowEngine_source hs]
    exact .of_eq rfl rfl
  lane l s _ _ := ⟨condemnLaneEngine_subs .., fun h sw tw r hturn => condemnLaneEngine_copy hturn ..⟩

theorem report_copyUntouched {a : ArrayNo} {i : PhysIndex} {s : State} (h : CopiesRow a (rowOf i) s) (g : Origin)
    (d : Decoded) : CopyUntouched a s (report a i g d s) :=
  report_within (R := fun s t => CopiesRow a (rowOf i) s → CopyUntouched a s t) (fun _ => .of_eq rfl rfl)
    (fun e _ => copyUntouched_allows { array := a, row := rowOf i, column := columnOf i, error := e, origin := g }) h

/-! ## The completion of a copy (R85) -/

section
variable (i : Fin 32) (e : SubEntry) (src : CopySource) (s : State)

theorem completeCopy_map : (completeCopy i e src s).map = s.map.removeWhere (MapEntry.inRow e.array (sourceRow e src)) := by
  rw [completeCopy, raise_map]
  cases src <;> rfl

theorem completeCopy_table (j : Fin 32) : (completeCopy i e src s).subs.table.get j =
    if j = i then some { e with phase := .active } else s.subs.table.get j := by
  have htable : (completeCopy i e src s).subs.table = (setEntry i (some { e with phase := .active }) s).subs.table := by
    rw [completeCopy, raise_subs]
    cases src <;> rfl
  rw [htable, table_setEntry]

theorem completeCopy_spare (a : ArrayNo) (t : SpareNo) : (completeCopy i e src s).spare a t =
    if src = .spare t ∧ a = e.array then .retired else s.spare a t := by
  have hspare : (completeCopy i e src s).spare a t =
      (retireSource e.array src (setEntry i (some { e with phase := .active }) s)).spare a t := by
    rw [completeCopy, State.spare, raise_subs]
    rfl
  rw [hspare]
  cases src with
  | hostRow => simp [retireSource]
  | spare p => simp [retireSource, and_comm, eq_comm (a := p)]

theorem completeCopy_flags : (completeCopy i e src s).alert.flags = s.alert.flags ||| 0x20 := by
  rw [completeCopy, raise_alert]
  cases src <;> rfl

theorem completeCopy_slot (j : Fin 64) : (completeCopy i e src s).map.slot j = (s.map.slot j).filter (fun x =>
    !(decide (x.array = e.array) && decide (x.row = sourceRow e src))) := by
  simp only [completeCopy_map, slot_removeWhere, MapEntry.inRow, Bool.decide_and]

theorem completeCopy_recency : (completeCopy i e src s).map.recency.Sublist s.map.recency := by
  rw [completeCopy_map]
  exact List.filter_sublist

theorem completeCopy_same : SameBeyondRepair s (completeCopy i e src s) := by
  refine SameBeyondRepair.trans ?_ (raise_same ..)
  cases src <;> constructor <;> rfl

theorem completeCopy_reachesAt (a : ArrayNo) : ReachesAt a s (completeCopy i e src s) := by
  refine ReachesAt.trans ?_ (raise_reachesAt ..)
  cases src <;> exact .of_eq

theorem completeCopy_ended (a : ArrayNo) (m : List (Nat × Stored)) :
    completeCopy i e src (s.ended a m) = (completeCopy i e src s).ended a m := by
  unfold completeCopy
  rw [← raise_ended]
  cases src <;> rfl

end

/-! ## The result of a COPY turn (R84) -/

section
variable (h : CopyHand) (s : State)

theorem copyResult_void (hv : h.void = true) : copyResult h s = s := if_pos hv

theorem copyResult_moves (hv : h.void = false) {e : SubEntry} {src : CopySource} {c : Nat}
    (he : s.subs.table.get h.entry = some e) (hp : e.phase = .copying src c) (hcol : h.column.val < 1023) :
    copyResult h s = setEntry h.entry (some { e with phase := .copying src (h.column.val + 1) }) s := by
  have hne : ¬h.column.val + 1 = columns := by
    show ¬_ = 1024
    omega
  simp only [copyResult, hv, he, hp, if_neg hne, Bool.false_eq_true, if_false]

theorem copyResult_completes (hv : h.void = false) {e : SubEntry} {src : CopySource} {c : Nat}
    (he : s.subs.table.get h.entry = some e) (hp : e.phase = .copying src c) (hcol : h.column.val = 1023) :
    copyResult h s = completeCopy h.entry e src s := by
  have heq : h.column.val + 1 = columns := by rw [hcol]
  simp only [copyResult, hv, he, hp, if_pos heq, Bool.false_eq_true, if_false]

/-- A COPY turn's result leaves the state, moves the cursor, or completes the copy (R84). -/
theorem copyResult_cases : copyResult h s = s ∨ (∃ e, copyResult h s = setEntry h.entry (some e) s) ∨
    ∃ e src, copyResult h s = completeCopy h.entry e src s := by
  unfold copyResult
  split
  · exact .inl rfl
  · split
    · exact .inl rfl
    · split
      · exact .inl rfl
      · split
        · exact .inr (.inr ⟨_, _, rfl⟩)
        · exact .inr (.inl ⟨_, rfl⟩)

theorem copyResult_same : SameBeyondRepair s (copyResult h s) := by
  rcases copyResult_cases h s with hr | ⟨e, hr⟩ | ⟨e, src, hr⟩ <;> rw [hr]
  · exact .refl s
  · exact setEntry_same ..
  · exact completeCopy_same ..

theorem copyResult_reachesAt (a : ArrayNo) : ReachesAt a s (copyResult h s) := by
  rcases copyResult_cases h s with hr | ⟨e, hr⟩ | ⟨e, src, hr⟩ <;> rw [hr]
  · exact .refl a s
  · exact .of_eq
  · exact completeCopy_reachesAt ..

theorem copyResult_ended (a : ArrayNo) (m : List (Nat × Stored)) :
    copyResult h (s.ended a m) = (copyResult h s).ended a m := by
  have htable : (s.ended a m).subs = s.subs := rfl
  simp only [copyResult, htable, completeCopy_ended]
  cases h.void with
  | true => rfl
  | false =>
    cases s.subs.table.get h.entry with
    | none => rfl
    | some e =>
      cases hp : e.phase with
      | active => simp only [hp]; rfl
      | copying src c =>
        simp only [hp, Bool.false_eq_true, if_false]
        rw [apply_ite (State.ended a m)]
        rfl

end

/-! ## The turn (R39) -/

theorem copyHand_of_turn {s : State} {a : ArrayNo} {h : CopyHand} {sw tw : PhysIndex} {r : SteerRecord}
    (ht : s.turn a = some { work := .copy h sw tw, steer := r }) : copyHand s a = some h := by
  simp only [copyHand, ht]

theorem exec_copyTurnComplete {s u : State} {a : ArrayNo} {flips : Stored} {h h' : CopyHand} {sw tw : PhysIndex}
    {r : SteerRecord} (hs : s.turn a = some { work := .copy h sw tw, steer := r })
    (hu : u = report a sw .copy (decodeNow s a sw r flips) s)
    (ht : u.turn a = some { work := .copy h' sw tw, steer := r }) : exec (.copyTurnComplete a flips) s =
      .next ((copyResult h' u).ended a (afterRewrite a sw tw r flips s).mem) := by
  show execCopyTurnComplete a flips s = _
  have hreport : report a sw .copy (decodeNow s a sw r flips)
      ((disturb a sw flips s).setWord a tw (rewritten r (decodeNow s a sw r flips))) =
      u.withMem (afterRewrite a sw tw r flips s).mem := by
    rw [hu]
    exact report_over (afterRewrite_eq_withMem ..) ..
  simp only [execCopyTurnComplete, hs, readIn_disturb, hreport, copyHand_of_turn ((turn_withMem ..).trans ht)]
  rw [← copyResult_ended]
  rfl

/-- The copy in hand's row, as the word it reads names it, is one that is being copied. -/
theorem copiesRow_of_hand {s : State} {a : ArrayNo} {h : CopyHand} {sw : PhysIndex} {e : SubEntry} {c : Nat}
    (hs : SubsOk s) (he : s.subs.table.get h.entry = some e) (ha : e.array = a) (hp : e.phase = .copying h.source c)
    (hrow : sw.val / 1024 = sourceRow e h.source) : CopiesRow a (rowOf sw) s :=
  ⟨hs, h.entry, e, h.source, c, he, ha, hp, hrow.symm⟩

/-- A void that the occurrence has not touched. -/
theorem void_eq_of_turn {s : State} {a : ArrayNo} {h : CopyHand} {v : Bool} {sw tw : PhysIndex} {r : SteerRecord}
    (hs : s.turn a = some { work := .copy h sw tw, steer := r })
    (hv : s.turn a = some { work := .copy { h with void := v } sw tw, steer := r }) : v = h.void := by
  cases h
  cases Option.some.inj (hs.symm.trans hv)
  rfl

/-- Settles O34: the words written, the occurrence, the result by the copy in hand; and the completion, part by part. -/
theorem copyTurnCompletes : Obligations.CopyTurnCompletes := by
  refine ⟨fun s a flips h sw tw r u hturn hu => ?turn, fun s i e src => ?completion⟩
  case completion =>
    refine ⟨?_, fun j hj => ?_, completeCopy_spare i e src s, completeCopy_slot i e src s, completeCopy_flags i e src s,
      completeCopy_recency i e src s⟩
    · rw [completeCopy_table, if_pos rfl]
    · rw [completeCopy_table, if_neg hj]
  case turn =>
    have hsame : SameBeyondRepair s u := hu ▸ report_same ..
    have hreach : ReachesAt a s u := hu ▸ report_reachesAt ..
    obtain ⟨v, hv, hhand⟩ := (hu ▸ report_handKept .. : HandKept a s u).copy h sw tw r hturn
    refine ⟨_, v, exec_copyTurnComplete hturn hu hhand, ?_⟩
    have hresult := hsame.trans (copyResult_same { h with void := v } u)
    obtain ⟨hset, hend, hqueue, hport, hscrub, hlink, hcontrol⟩ := ended_turnEnded hresult
      (hreach.trans (copyResult_reachesAt { h with void := v } u a)) (afterRewrite a sw tw r flips s).mem
    have hword := fun b j => word_ended_afterRewrite hresult.epoch a b sw tw j r flips
    refine ⟨hset, hend, hqueue, hport, hscrub, hlink, ?_, fun hne => ?_, fun b j hj => ?_, hhand, hv, fun herr => ?_,
      fun e c hs he ha hp hrow => ?_, fun hvoid => ?_, fun hvoid e src c he hp => ⟨fun hcol => ?_, fun hcol => ?_⟩⟩
    · rw [hword, if_pos ⟨rfl, rfl⟩]
      exact rewritten_eq ..
    · rw [hword, if_neg fun hh => hne hh.2, if_pos ⟨rfl, rfl⟩]
    · rw [hword, if_neg fun hh => hj ⟨hh.1, by simp [hh.2]⟩, if_neg fun hh => hj ⟨hh.1, by simp [hh.2]⟩]
    · obtain rfl : u = s := hu.trans (report_none herr ..)
      exact ⟨void_eq_of_turn hturn hhand, rfl⟩
    · have huntouched : CopyUntouched a s u := hu ▸ report_copyUntouched (copiesRow_of_hand hs he ha hp hrow) ..
      rw [huntouched.hand h sw tw r hturn] at hhand
      exact ⟨void_eq_of_turn hturn hhand, huntouched.subs⟩
    · rwa [copyResult_void _ u hvoid] at hcontrol ⊢
    · rwa [copyResult_moves { h with void := v } u hvoid he hp hcol] at hcontrol ⊢
    · rwa [copyResult_completes { h with void := v } u hvoid he hp hcol] at hcontrol ⊢

end Sys2Proof.Machine
end

section
/-! The statement on MIGRATE turns (R40, R102, R103). -/

namespace Sys2Proof.Machine

set_option Elab.async false

/-! ## An occurrence on a lane that is migrating (R26, R97, R102) -/

/-- What an occurrence at or above the cursor of a migration leaves alone: the records and the migration in hand. -/
structure MigrationUntouched (a : ArrayNo) (s t : State) : Prop where
  steer : t.steer = s.steer
  hand : ∀ k i v r, s.turn a = some { work := .migrate k i v, steer := r } → t.turn a = s.turn a

theorem MigrationUntouched.of_eq {a : ArrayNo} {s t : State} (hs : t.steer = s.steer) (ht : t.turns = s.turns) :
    MigrationUntouched a s t := ⟨hs, fun _ _ _ _ _ => turn_congr ht a⟩

theorem MigrationUntouched.trans {a : ArrayNo} {s t u : State} (h : MigrationUntouched a s t)
    (g : MigrationUntouched a t u) : MigrationUntouched a s u where
  steer := g.steer.trans h.steer
  hand k i v r hs :=
    have ht := h.hand k i v r hs
    (g.hand k i v r (ht.trans hs)).trans ht

/-- A condemnation of a coded lane of an array whose lane 72 is taken changes no record and no turn (R97, R98). -/
theorem condemnLaneEngine_taken {s : State} {a : ArrayNo} {k : CodedLane} {l : PhysLane}
    (h : namedLane (s.steerOf a) = some k) (hl : l.val < 72) (auto : Bool) :
    (condemnLaneEngine auto a l s).1.steer = s.steer ∧ (condemnLaneEngine auto a l s).1.turns = s.turns := by
  have hcoded : finOf? 72 l.val = some ⟨l.val, hl⟩ := finOf?_some rfl
  simp only [condemnLaneEngine, hcoded, condemnCodedLane, h]
  split
  · exact ⟨rfl, rfl⟩
  · split
    · exact ⟨rfl, rfl⟩
    · exact ⟨raise_steer .., raise_turns ..⟩

theorem migrationUntouched_allows {o : Occurrence} (hlane : ∀ l, o.error = .fixed l → l.val < 72) (k : CodedLane) :
    AllowsOccurrence o (fun s t => namedLane (s.steerOf o.array) = some k → MigrationUntouched o.array s t) where
  refl s _ := .of_eq rfl rfl
  trans h g hs := (h hs).trans (g (by rw [State.steerOf, (h hs).steer, ← State.steerOf, hs]))
  raise f s _ := .of_eq (raise_steer f s) (raise_turns f s)
  withMap m s _ := .of_eq rfl rfl
  row s _ := ⟨condemnRowEngine_steer .., fun k i v r hturn => condemnRowEngine_migration hturn ..⟩
  lane l s hl hs := by
    obtain ⟨hsteer, hturns⟩ := condemnLaneEngine_taken hs (hlane l hl) true
    exact .of_eq hsteer hturns

/-- Where lane 72 has supplied no lane, a FIXED decode is charged to the coded lane it names (R26). -/
theorem fixed_lane_lt {d : Decoded} (hc : d.choice = none) {l : PhysLane} (h : d.error = some (.fixed l)) : l.val < 72 := by
  unfold Decoded.error at h
  split at h
  case h_3 n _ =>
    rw [hc] at h
    cases h
    exact n.isLt
  all_goals cases h

/-- At or above the cursor lane 72 supplies no lane (R24). -/
theorem decodeNow_choice_migrating {k : CodedLane} {c : Nat} {i : PhysIndex} (h : c ≤ i.val) (o : RepairOrigin) (s : State)
    (a : ArrayNo) (flips : Stored) : (decodeNow s a i (.migrating k c o) flips).choice = none :=
  if_neg (Nat.not_lt.mpr h)

theorem report_migrationUntouched {a : ArrayNo} {i : PhysIndex} {s : State} {d : Decoded} {k : CodedLane}
    (hd : d.choice = none) (h : namedLane (s.steerOf a) = some k) (g : Origin) :
    MigrationUntouched a s (report a i g d s) :=
  report_within (R := fun s t => namedLane (s.steerOf a) = some k → MigrationUntouched a s t) (fun _ => .of_eq rfl rfl)
    (fun e he => migrationUntouched_allows
      (o := { array := a, row := rowOf i, column := columnOf i, error := e, origin := g })
      (fun _ hl => fixed_lane_lt hd (he.trans (congrArg some hl))) k) h

/-! ## The result of a MIGRATE turn (R102, R103) -/

/-- The completion of a migration, in R103's order. -/
def completeMigration (a : ArrayNo) (k : CodedLane) (o : RepairOrigin) (s : State) : State :=
  raise .spareDone (purgeLane a k (setSteer a (.steered k o) s))

section
variable {a : ArrayNo} {i : PhysIndex} {s : State} {k : CodedLane} {c : Nat} {o : RepairOrigin}

theorem migrateResult_moves (h : s.steerOf a = .migrating k c o) (hi : i.val < 33570815) :
    migrateResult a i false s = setSteer a (.migrating k (i.val + 1) o) s := by
  have hne : ¬i.val + 1 = wordsPerArray := by
    show ¬_ = 33570816
    omega
  simp only [migrateResult, h, if_neg hne, Bool.false_eq_true, if_false]

theorem migrateResult_completes (h : s.steerOf a = .migrating k c o) (hi : i.val = 33570815) :
    migrateResult a i false s = completeMigration a k o s := by
  have heq : i.val + 1 = wordsPerArray := by rw [hi]
  simp only [migrateResult, h, if_pos heq, Bool.false_eq_true, if_false]
  rfl

end

section
variable (a : ArrayNo) (i : PhysIndex) (void : Bool) (k : CodedLane) (o : RepairOrigin) (s : State)

/-- A MIGRATE turn's result leaves the state, moves the cursor, or completes the migration. -/
theorem migrateResult_cases : migrateResult a i void s = s ∨ (∃ r, migrateResult a i void s = setSteer a r s) ∨
    ∃ k o, migrateResult a i void s = completeMigration a k o s := by
  unfold migrateResult
  split
  · exact .inl rfl
  · split
    · exact .inl rfl
    · exact .inl rfl
    · split
      · exact .inr (.inr ⟨_, _, rfl⟩)
      · exact .inr (.inl ⟨_, rfl⟩)

theorem completeMigration_same : SameBeyondRepair s (completeMigration a k o s) :=
  SameBeyondRepair.trans (by constructor <;> rfl) (raise_same ..)

theorem completeMigration_reachesAt (b : ArrayNo) : ReachesAt b s (completeMigration a k o s) :=
  ReachesAt.trans .of_eq (raise_reachesAt ..)

theorem migrateResult_same : SameBeyondRepair s (migrateResult a i void s) := by
  rcases migrateResult_cases a i void s with h | ⟨r, h⟩ | ⟨k, o, h⟩ <;> rw [h]
  · exact .refl s
  · exact setSteer_same ..
  · exact completeMigration_same ..

theorem migrateResult_reachesAt (b : ArrayNo) : ReachesAt b s (migrateResult a i void s) := by
  rcases migrateResult_cases a i void s with h | ⟨r, h⟩ | ⟨k, o, h⟩ <;> rw [h]
  · exact .refl b s
  · exact .of_eq
  · exact completeMigration_reachesAt ..

theorem completeMigration_ended (b : ArrayNo) (m : List (Nat × Stored)) :
    completeMigration a k o (s.ended b m) = (completeMigration a k o s).ended b m := by
  unfold completeMigration
  rw [← raise_ended]
  rfl

theorem migrateResult_ended (b : ArrayNo) (m : List (Nat × Stored)) :
    migrateResult a i void (s.ended b m) = (migrateResult a i void s).ended b m := by
  have hsteer : (s.ended b m).steerOf a = s.steerOf a := rfl
  cases void with
  | true => rfl
  | false =>
    cases hr : s.steerOf a with
    | normal => simp only [migrateResult, hsteer, hr, Bool.false_eq_true, if_false]
    | steered k o => simp only [migrateResult, hsteer, hr, Bool.false_eq_true, if_false]
    | migrating k c o =>
      rcases Nat.lt_or_ge i.val 33570815 with hi | hi
      · rw [migrateResult_moves hr hi, migrateResult_moves (hsteer.trans hr) hi]
        rfl
      · have hlast : i.val = 33570815 := le_antisymm (Nat.le_of_lt_succ i.isLt) hi
        rw [migrateResult_completes hr hlast, migrateResult_completes (hsteer.trans hr) hlast, completeMigration_ended]

/-- A raise is the state with its flag raised, and in QUIET perhaps a wake (R173, R175). -/
theorem raise_eq_raised (f : AlertFlag) : raise f s = s.raised f.mask := by
  unfold raise changeAlert State.raised State.withAlert alertCondition
  dsimp only
  split <;> rfl

/-- The completion's control state: the record STEERED, SPARE-DONE raised, and the map purged (R103). -/
theorem completeMigration_control :
    SameControl { (setSteer a (.steered k o) s).raised 0x20 with map := (completeMigration a k o s).map }
      (completeMigration a k o s) := by
  rw [completeMigration, raise_eq_raised]
  exact ⟨rfl, rfl, rfl, rfl, rfl⟩

theorem completeMigration_map :
    (completeMigration a k o s).map = s.map.removeWhere (MapEntry.inLane a k.castSucc) := raise_map ..

theorem completeMigration_slot (j : Fin 64) : (completeMigration a k o s).map.slot j = (s.map.slot j).filter (fun x =>
    !(decide (x.array = a) && decide (x.lane = some k.castSucc))) := by
  simp only [completeMigration_map, slot_removeWhere, MapEntry.inLane, Bool.decide_and]

theorem completeMigration_recency : (completeMigration a k o s).map.recency.Sublist s.map.recency := by
  rw [completeMigration_map]
  exact List.filter_sublist

end

/-! ## The turn (R40) -/

theorem migrationVoid_of_turn {s : State} {a : ArrayNo} {k : CodedLane} {i : PhysIndex} {v : Bool} {r : SteerRecord}
    (h : s.turn a = some { work := .migrate k i v, steer := r }) : migrationVoid s a = v := by
  simp only [migrationVoid, h]

theorem exec_migrateTurnComplete {s u : State} {a : ArrayNo} {flips : Stored} {k : CodedLane} {i : PhysIndex}
    {v v' : Bool} {r : SteerRecord} (hs : s.turn a = some { work := .migrate k i v, steer := r })
    (hu : u = report a i .migrate (decodeNow s a i r flips) s)
    (ht : u.turn a = some { work := .migrate k i v', steer := r }) : exec (.migrateTurnComplete a flips) s =
      .next ((migrateResult a i v' u).ended a (afterRewrite a i i r flips s).mem) := by
  show execMigrateTurnComplete a flips s = _
  have hreport : report a i .migrate (decodeNow s a i r flips)
      ((disturb a i flips s).setWord a i (rewritten r (decodeNow s a i r flips))) =
      u.withMem (afterRewrite a i i r flips s).mem := by
    rw [hu]
    exact report_over (afterRewrite_eq_withMem ..) ..
  simp only [execMigrateTurnComplete, hs, readIn_disturb, hreport, migrationVoid_of_turn ((turn_withMem ..).trans ht)]
  rw [← migrateResult_ended]
  rfl

/-- Settles O35: the word written, the occurrence, and the result by the migration in hand. -/
theorem migrateTurnCompletes : Obligations.MigrateTurnCompletes := by
  intro s a flips k i v r u hturn hu
  have hsame : SameBeyondRepair s u := hu ▸ report_same ..
  have hreach : ReachesAt a s u := hu ▸ report_reachesAt ..
  obtain ⟨v', hv, hhand⟩ := (hu ▸ report_handKept .. : HandKept a s u).migration k i v r hturn
  refine ⟨_, v', exec_migrateTurnComplete hturn hu hhand, ?_⟩
  have hresult := hsame.trans (migrateResult_same a i v' u)
  obtain ⟨hset, hend, hqueue, hport, hscrub, hlink, hcontrol⟩ := ended_turnEnded hresult
    (hreach.trans (migrateResult_reachesAt a i v' u a)) (afterRewrite a i i r flips s).mem
  have hword := fun b j => word_ended_afterRewrite hresult.epoch a b i i j r flips
  have hvoid (h : s.turn a = some { work := .migrate k i v', steer := r }) : v' = v := by
    cases Option.some.inj (hturn.symm.trans h)
    rfl
  refine ⟨hset, hend, hqueue, hport, hscrub, hlink, ?_, fun b j hj => ?_, hhand, hv, fun herr => ?_,
    fun k0 k1 c0 c1 o0 o1 hr hc hsteer => ?_, ?_, ?_⟩
  · rw [hword, if_pos ⟨rfl, rfl⟩]
    exact rewritten_eq ..
  · have hother : ¬(b = a ∧ j = i) := fun h => hj ⟨h.1, List.mem_singleton.mpr h.2⟩
    rw [hword, if_neg hother, if_neg hother]
  · obtain rfl : u = s := hu.trans (report_none herr ..)
    exact ⟨hvoid hhand, rfl⟩
  · have huntouched : MigrationUntouched a s u := by
      rw [hu]
      refine report_migrationUntouched (k := k1) ?_ (by rw [hsteer]; rfl) .migrate
      rw [hr]
      exact decodeNow_choice_migrating hc ..
    exact ⟨hvoid ((huntouched.hand k i v r hturn).symm.trans hhand), huntouched.steer⟩
  · rintro rfl
    exact hcontrol
  · rintro rfl k1 c o hsteer
    refine ⟨fun hi => ?_, fun hi => ?_⟩
    · rwa [migrateResult_moves hsteer hi] at hcontrol ⊢
    · rw [migrateResult_completes hsteer hi]
      exact ⟨completeMigration_control a k1 o u, completeMigration_recency a k1 o u, completeMigration_slot a k1 o u⟩

end Sys2Proof.Machine
end

section
/-! The statement on the Fault Map through every step (R49, R50, R51). -/

namespace Sys2Proof.Machine

set_option Elab.async false

/-- Settles O5: the Fault Map is one of the invariants that every step keeps. -/
theorem stepsKeepFaultMap : Obligations.StepsKeepFaultMap :=
  fun _ _ hs h => (step_keeps h).map hs

end Sys2Proof.Machine
end

section
/-! SUPPORT. What a condemnation leaves: its marks in the Fault Map (R63), its flag, and the repair it starts (R77, R97). -/

namespace Sys2Proof.Machine

set_option Elab.async false

/-! ## The marks (R63) -/

/-- An entry that a condemnation names is CONDEMNED after it. -/
theorem condemned_of_condemnWhere {m : FaultMap} {p : MapEntry → Bool} {i : Fin 64} {e : MapEntry}
    (h : (m.condemnWhere p).slot i = some e) (hp : p e = true) : e.state = .condemned := by
  rw [slot_condemnWhere] at h
  obtain ⟨x, -, hx⟩ := Option.map_eq_some_iff.mp h
  split at hx
  · rw [← hx]
  next hno => exact absurd (hx ▸ hp) hno

/-- An entry after a condemnation is CONDEMNED, or stood there as it is. -/
theorem slot_of_condemnWhere {m : FaultMap} {p : MapEntry → Bool} {i : Fin 64} {e : MapEntry}
    (h : (m.condemnWhere p).slot i = some e) : e.state = .condemned ∨ m.slot i = some e := by
  rw [slot_condemnWhere] at h
  obtain ⟨x, hx, hxe⟩ := Option.map_eq_some_iff.mp h
  split at hxe
  · exact .inl (by rw [← hxe])
  · exact .inr (hxe ▸ hx)

/-! ## The flags (R63, R173) -/

theorem condemnRow_raises (a : ArrayNo) (row : Nat) (s : State) : (condemnRow a row s).alert.flags.getLsbD 4 = true :=
  raise_sets .condemned _

theorem condemnLane_raises (a : ArrayNo) (l : PhysLane) (s : State) : (condemnLane a l s).alert.flags.getLsbD 4 = true :=
  raise_sets .condemned _

/-- A flag that is set stays set through the condemnation of a lane. -/
theorem condemnLane_keeps_flag {s : State} {n : Nat} (h : s.alert.flags.getLsbD n = true) (a : ArrayNo) (l : PhysLane) :
    (condemnLane a l s).alert.flags.getLsbD n = true := by
  rcases condemnLane_flags a l s with hf | hf
  · rw [hf, getLsbD_or_condemned, h, Bool.true_or]
  · rw [hf, getLsbD_or_condemned, getLsbD_or_noSpare, h, Bool.true_or, Bool.true_or]

/-! ## The copy of a host row (R77) -/

section
variable {s t : State} {a : ArrayNo} {row : Nat}

theorem entryFor_congr (h : t.subs = s.subs) : entryFor t a row = entryFor s a row := by
  simp only [entryFor, entryWhere, h]

theorem freeEntry_congr (h : t.subs = s.subs) : freeEntry t = freeEntry s := by
  simp only [freeEntry, h]

theorem spare_congr (h : t.subs = s.subs) (p : SpareNo) : t.spare a p = s.spare a p := by
  rw [State.spare, h, State.spare]

theorem freeSpare_congr (h : t.subs = s.subs) : freeSpare t a = freeSpare s a := by
  simp only [freeSpare, spare_congr h]

theorem condemnHostRow_starts (hfor : entryFor s a row = none) (hauto : s.params.autoSub = true) {i : Fin 32}
    {p : SpareNo} (hi : freeEntry s = some i) (hp : freeSpare s a = some p) :
    (condemnHostRow true a row s).1 = setEntry i
      (some { array := a, hostRow := row, phase := .copying .hostRow 0, target := p, origin := .auto })
      (setSpare a p .inUse s) := by
  simp [condemnHostRow, hfor, hauto, hi, hp]

theorem condemnHostRow_noSpare (hfor : entryFor s a row = none) (hauto : s.params.autoSub = true)
    (hnone : freeEntry s = none ∨ freeSpare s a = none) : (condemnHostRow true a row s).1 = raise .noSpare s := by
  -- By `hno` the match on the entry and the spare is not at its first alternative.
  have hno : ∀ (i : Fin 32) (p : SpareNo), freeEntry s = some i → freeSpare s a = some p → False := by
    rintro i p hi hp
    rcases hnone with h | h
    · cases h.symm.trans hi
    · cases h.symm.trans hp
  simp only [condemnHostRow, hfor, hauto, Bool.not_true, Bool.and_false, Bool.false_eq_true, if_false]

/-- The engine is handed the row after the map has been marked, with the repair tables as they stood (R63). -/
theorem condemnRow_host (hrow : row < hostRows) (s : State) :
    ∃ m, condemnRow a row s = raise .condemned (condemnHostRow true a row { s with map := m }).1 :=
  ⟨_, by rw [condemnRow, condemnRowEngine, if_pos hrow]⟩

theorem condemnRow_starts (hrow : row < hostRows) (hfor : entryFor s a row = none) (hauto : s.params.autoSub = true)
    {i : Fin 32} {p : SpareNo} (hi : freeEntry s = some i) (hp : freeSpare s a = some p) :
    (condemnRow a row s).subs = (setEntry i
      (some { array := a, hostRow := row, phase := .copying .hostRow 0, target := p, origin := .auto })
      (setSpare a p .inUse s)).subs := by
  obtain ⟨m, h⟩ := condemnRow_host (a := a) hrow s
  rw [h, raise_subs, condemnHostRow_starts (s := { s with map := m }) hfor hauto hi hp]
  rfl

theorem condemnRow_noSpare (hrow : row < hostRows) (hfor : entryFor s a row = none) (hauto : s.params.autoSub = true)
    (hnone : freeEntry s = none ∨ freeSpare s a = none) :
    (condemnRow a row s).subs = s.subs ∧ (condemnRow a row s).alert.flags.getLsbD 6 = true := by
  obtain ⟨m, h⟩ := condemnRow_host (a := a) hrow s
  rw [h, condemnHostRow_noSpare (s := { s with map := m }) hfor hauto hnone]
  exact ⟨by rw [raise_subs, raise_subs], raise_keeps (raise_sets .noSpare _)⟩

end

/-! ## A condemned row -/

/-- What the condemnation of an occurrence's row leaves in `t`, begun in a state with the repair tables of `s`: the row's
entries CONDEMNED, the flag, and the copy of a host row that no entry serves, or NO-SPARE (R60, R63, R77). -/
structure RowCondemned (a : ArrayNo) (row : Nat) (s t : State) : Prop where
  marked : ∀ (i : Fin 64) (e : MapEntry), t.map.slot i = some e → e.array = a → e.row = row → e.state = .condemned
  flag : t.alert.flags.getLsbD 4 = true
  copied : row < 32768 → entryFor s a row = none → s.params.autoSub = true → ∀ (i : Fin 32) (p : SpareNo),
    freeEntry s = some i → freeSpare s a = some p →
      t.subs.table.get i = some { array := a, hostRow := row, phase := .copying .hostRow 0, target := p, origin := .auto } ∧
      t.spare a p = .inUse
  noSpare : row < 32768 → entryFor s a row = none → s.params.autoSub = true →
    freeEntry s = none ∨ freeSpare s a = none → t.subs = s.subs ∧ t.alert.flags.getLsbD 6 = true

theorem condemnRow_rowCondemned {s u : State} (hsubs : u.subs = s.subs) (hparams : u.params = s.params) (a : ArrayNo)
    (row : Nat) : RowCondemned a row s (condemnRow a row u) where
  marked i e he ha hr := by
    rw [condemnRow_map] at he
    exact condemned_of_condemnWhere he (decide_eq_true ⟨ha, hr⟩)
  flag := condemnRow_raises a row u
  copied hrow hfor hauto i p hi hp := by
    have hstart := condemnRow_starts hrow ((entryFor_congr hsubs).trans hfor)
      ((congrArg Params.autoSub hparams).trans hauto) ((freeEntry_congr hsubs).trans hi) ((freeSpare_congr hsubs).trans hp)
    rw [spare_congr hstart, hstart, table_setEntry, spare_setEntry, spare_setSpare]
    exact ⟨if_pos rfl, if_pos ⟨rfl, rfl⟩⟩
  noSpare hrow hfor hauto hnone := by
    rw [← hsubs]
    refine condemnRow_noSpare hrow ((entryFor_congr hsubs).trans hfor) ((congrArg Params.autoSub hparams).trans hauto) ?_
    rwa [freeEntry_congr hsubs, freeSpare_congr hsubs]

/-- The condemnation of a lane takes nothing back from that of a row. -/
theorem RowCondemned.condemnLane {a : ArrayNo} {row : Nat} {s t : State} (h : RowCondemned a row s t) (b : ArrayNo)
    (l : PhysLane) : RowCondemned a row s (condemnLane b l t) := by
  have hsubs : (Machine.condemnLane b l t).subs = t.subs := by
    rw [Machine.condemnLane, raise_subs, condemnLaneEngine_subs]
  refine ⟨fun i e he ha hr => ?_, condemnLane_raises b l t, ?_, ?_⟩
  · rw [condemnLane_map] at he
    exact (slot_of_condemnWhere he).elim id fun ht => h.marked i e ht ha hr
  · simp only [hsubs, spare_congr hsubs]
    exact h.copied
  · rw [hsubs]
    exact fun hrow hfor hauto hnone =>
      (h.noSpare hrow hfor hauto hnone).imp_right fun hf => condemnLane_keeps_flag hf b l

end Sys2Proof.Machine
end

section
/-! The statement on what an occurrence condemns (R58, R60 to R63, R77, R97). -/

namespace Sys2Proof.Machine

set_option Elab.async false

/-- A FAULT condemns its row, whatever the Fault Map holds (R60). -/
theorem deliver_fault {o : Occurrence} (h : o.error = .fault) (s : State) :
    ∃ u, u.subs = s.subs ∧ u.params = s.params ∧ deliver o s = condemnRow o.array o.row u := by
  unfold deliver
  dsimp only
  split
  · refine ⟨_, ?_, ?_, (triggers_eq ..).1 h⟩
    · exact raise_subs o.error.flag s
    · exact raise_params o.error.flag s
  · refine ⟨_, ?_, ?_, (triggers_eq ..).1 h⟩
    · rw [raise_subs, raise_subs]
    · rw [raise_params, raise_params]

theorem deliver_rowCondemned {s : State} {o : Occurrence} (hm : o.error = .fault ∨ MapOk s.map) (h : CondemnsRow s o) :
    RowCondemned o.array o.row s (deliver o s) := by
  rcases hm with hfault | hm
  · obtain ⟨u, hsubs, hparams, hd⟩ := deliver_fault hfault s
    rw [hd]
    exact condemnRow_rowCondemned hsubs hparams ..
  · obtain ⟨u, hrec, hd⟩ := deliver_cases (o := o) hm
    obtain ⟨hsubs, -, -, hparams, -⟩ := hrec.same
    have hrow := condemnRow_rowCondemned hsubs hparams o.array o.row
    obtain ⟨hlane, hnolane⟩ := hd _ (fun _ => rfl) (fun hn => absurd h hn)
    by_cases hl : ∃ l, CondemnsLane s o l
    · obtain ⟨l, hl⟩ := hl
      rw [hlane l hl]
      exact hrow.condemnLane o.array l
    · rw [hnolane (not_exists.mp hl)]
      exact hrow

/-- A condemnation of a coded lane of an array whose lane 72 is free starts a migration under AUTO-STEER (R97). -/
theorem condemnLaneEngine_starts {s : State} {a : ArrayNo} (hn : s.steerOf a = .normal) (hauto : s.params.autoSteer = true)
    (k : CodedLane) : (condemnLaneEngine true a k.castSucc s).1.steerOf a = .migrating k 0 .auto := by
  have hcoded : finOf? 72 k.castSucc.val = some k := finOf?_some rfl
  rw [condemnLaneEngine, hcoded]
  simp [condemnCodedLane, hn, namedLane, hauto]

theorem deliver_migrates {s : State} {o : Occurrence} (hm : MapOk s.map) {k : CodedLane}
    (h : CondemnsLane s o k.castSucc) (hn : s.steerOf o.array = .normal) (hauto : s.params.autoSteer = true) :
    (deliver o s).steerOf o.array = .migrating k 0 .auto := by
  obtain ⟨u, v, w, -, husteer, -, huparams, -, -, -, hvsteer, hvparams, hlane, -, -⟩ := deliver_engines (o := o) hm
  obtain ⟨rfl, -, -, hsteer⟩ := hlane _ h
  rw [State.steerOf, hsteer, ← State.steerOf]
  refine condemnLaneEngine_starts ?_ ?_ k
  · rw [State.steerOf, hvsteer, husteer, ← State.steerOf, hn]
  · rw [hvparams, huparams, hauto]

/-- A recording makes no entry CONDEMNED: one that is was so before (R54, R58). -/
theorem RecordedAs.condemned {sa : Nat} {p : BitVec 16} {o : Occurrence} {m m' : FaultMap} {b : Bool} {i : Fin 64}
    {e : MapEntry} (r : RecordedAs sa p o m m' b i e) (he : e.state = .condemned) :
    ∃ x ∈ m.slot i, x.state = .condemned := by
  by_cases hex : ∃ j old, m.slot j = some old ∧ o.hasKey old = true
  · obtain ⟨j, old, hj, hk⟩ := hex
    obtain ⟨rfl, -, -, hstate, -⟩ := r.upd j old hj hk
    refine ⟨old, hj, ?_⟩
    rw [he] at hstate
    split at hstate
    · cases hstate
    · exact hstate.symm
  · have hno : ∀ j old, m.slot j = some old → o.hasKey old = false :=
      fun j old hj => Bool.eq_false_iff.mpr fun hk => hex ⟨j, old, hj, hk⟩
    obtain ⟨-, -, hstate, -⟩ := r.new hno
    rw [he] at hstate
    split at hstate
    · split at hstate <;> cases hstate
    all_goals cases hstate

theorem AfterRecording.condemned {s u : State} {o : Occurrence} (h : AfterRecording s o u) {j : Fin 64} {e : MapEntry}
    (hj : u.map.slot j = some e) (he : e.state = .condemned) : ∃ x ∈ s.map.slot j, x.state = .condemned := by
  cases h with
  | ins m' b i e' r =>
    have hslot : m'.slot j = some e := hj
    rw [r.eq, slot_setSlot_touch] at hslot
    split at hslot
    next hji =>
      cases hslot
      exact hji ▸ r.condemned he
    · exact ⟨e, hslot, he⟩
  | lost _ =>
    rw [raise_map, raise_map] at hj
    exact ⟨e, hj, he⟩

/-- Settles O41: the row's condemnation and the lane's each leave their marks, and without them the recording alone acts. -/
theorem condemnationsByTheirTriggers : Obligations.CondemnationsByTheirTriggers := by
  refine ⟨fun s o hm hrow => ?row, fun s o l hm hlane => ?lane, fun s o hm hrow hlane => ?neither, fun s o ho => ?blank⟩
  case row =>
    have h := deliver_rowCondemned hm hrow
    exact ⟨h.marked, h.flag, fun hr hfor hauto => ⟨h.copied hr hfor hauto, h.noSpare hr hfor hauto⟩⟩
  case lane =>
    obtain ⟨p, u, h⟩ := deliver_marks (o := o) hm
    obtain ⟨hp, hflag⟩ := h.lane l hlane
    refine ⟨hflag, fun j e he ha hl => ?_, fun k hk hn hauto => deliver_migrates hm (hk ▸ hlane) hn hauto⟩
    rw [h.slot j, ← slot_condemnWhere] at he
    exact condemned_of_condemnWhere he (hp e ha hl)
  case neither =>
    obtain ⟨p, u, h⟩ := deliver_marks (o := o) hm
    obtain ⟨hd, -⟩ := h.neither hrow hlane
    obtain ⟨hsubs, hsteer, hturns, -, hflags⟩ := h.recd.same
    rw [hd]
    exact ⟨hsubs, hsteer, hturns, fun n hflag h3 => hflags n h3 hflag, fun j e he hc => h.recd.condemned he hc⟩
  case blank =>
    refine ⟨?_, fun l hl => ?_⟩
    · rintro (hf | ⟨hl, -, -⟩)
      · cases ho.symm.trans hf
      · exact hl (by rw [ho]; rfl)
    · cases ho.symm.trans hl.1

end Sys2Proof.Machine
end

section
/-! The statement on MAP-DELETE and MAP-PURGE (R70, R71). -/

namespace Sys2Proof.Machine

set_option Elab.async false

theorem slot_emptied (j : Fin 64) : FaultMap.emptied.slot j = none := slot_replicate_none j

section
variable {q n : Byte} {rest : List Byte} {s : State}

theorem doMapDelete_badArgument (h : 63 < n.toNat) :
    doMapDelete q (n :: rest) s = s.withReply q .badArgument [] := by
  simp only [doMapDelete, argNat_0_1, finOf?_none (Nat.succ_le_of_lt h), reply_eq]

theorem doMapDelete_empty {i : Fin 64} (hi : i.val = n.toNat) (hs : s.map.slot i = none) :
    doMapDelete q (n :: rest) s = s.withReply q .empty [] := by
  simp only [doMapDelete, argNat_0_1, finOf?_some hi, hs, reply_eq]

theorem doMapDelete_removes {i : Fin 64} (hi : i.val = n.toNat) {e : MapEntry} (hs : s.map.slot i = some e) :
    doMapDelete q (n :: rest) s = { s with map := s.map.removeSlot i }.withReply q .ok [] := by
  simp only [doMapDelete, argNat_0_1, finOf?_some hi, hs, reply_eq]

end

/-- Settles O57: by the slot the argument names; a purge leaves the empty map. -/
theorem mapEntriesAreDeleted : Obligations.MapEntriesAreDeleted := by
  refine fun s q args h => ⟨?delete, FaultMap.emptied, ?purge, slot_emptied, rfl⟩
  case delete =>
    rintro n rest rfl
    have hexec : exec (.mapDelete q (n :: rest)) s = .next (doMapDelete q (n :: rest) s) :=
      exec_row_executes (c := .mapDelete) h (Nat.le_add_left 1 rest.length)
    rw [hexec]
    refine ⟨fun hn => congrArg _ (doMapDelete_badArgument hn), fun i hi =>
      ⟨fun hs => congrArg _ (doMapDelete_empty hi hs), fun e hs => ⟨s.map.removeSlot i, ?_, ?_, rfl⟩⟩⟩
    · exact congrArg _ (doMapDelete_removes hi hs)
    · exact fun j => slot_removeSlot s.map i j
  case purge => exact exec_row_executes (c := .mapPurge) h (Nat.zero_le _)

end Sys2Proof.Machine
end

section
/-! The statement on the reports of the tables (R69, R91, R92, R109, R123, R171; 13.6). -/

namespace Sys2Proof.Machine

set_option Elab.async false

section
variable {q n : Byte} {rest : List Byte} {s : State}

/-! ## MAP-READ (R69) -/

theorem doMapRead_badArgument (h : 63 < n.toNat) : doMapRead q (n :: rest) s = s.withReply q .badArgument [] := by
  simp only [doMapRead, argNat_0_1, finOf?_none (Nat.succ_le_of_lt h), reply_eq]

theorem doMapRead_empty {i : Fin 64} (hi : i.val = n.toNat) (hs : s.map.slot i = none) :
    doMapRead q (n :: rest) s = s.withReply q .empty [] := by
  simp only [doMapRead, argNat_0_1, finOf?_some hi, hs, reply_eq]

theorem doMapRead_reports {i : Fin 64} (hi : i.val = n.toNat) {e : MapEntry} (hs : s.map.slot i = some e) :
    doMapRead q (n :: rest) s = s.withReply q .ok (mapReadBytes s.map i e) := by
  simp only [doMapRead, argNat_0_1, finOf?_some hi, hs, reply_eq]

/-- An index that an argument byte names is reported as that byte. -/
theorem byteNat_of_val {k : Nat} {i : Fin k} (h : i.val = n.toNat) : byteNat i.val = n := by
  rw [byteNat, h, BitVec.ofNat_toNat, BitVec.setWidth_eq]

/-! ## SUB-READ and SPARE-READ (R91, R92) -/

theorem doSubRead_badArgument (h : 31 < n.toNat) : doSubRead q (n :: rest) s = s.withReply q .badArgument [] := by
  simp only [doSubRead, argNat_0_1, finOf?_none (Nat.succ_le_of_lt h), reply_eq]

theorem doSubRead_empty {i : Fin 32} (hi : i.val = n.toNat) (hs : s.subs.table.get i = none) :
    doSubRead q (n :: rest) s = s.withReply q .empty [] := by
  simp only [doSubRead, argNat_0_1, finOf?_some hi, hs, reply_eq]

theorem doSubRead_reports {i : Fin 32} (hi : i.val = n.toNat) {e : SubEntry} (hs : s.subs.table.get i = some e) :
    doSubRead q (n :: rest) s = s.withReply q .ok (subReadBytes e) := by
  simp only [doSubRead, argNat_0_1, finOf?_some hi, hs, reply_eq]

theorem subReadBytes_copying {e : SubEntry} {src : CopySource} {c : Nat} (h : e.phase = .copying src c) :
    subReadBytes e = [0x01, byteNat e.array.val, BitVec.ofNat 8 (e.hostRow / 256), BitVec.ofNat 8 e.hostRow,
      sourceByte src, byteNat e.target.val, BitVec.ofNat 8 (c / 256), BitVec.ofNat 8 c, e.origin.code] := by
  simp only [subReadBytes, h, beBytes_two]
  rfl

theorem subReadBytes_active {e : SubEntry} (h : e.phase = .active) :
    subReadBytes e = [0x02, byteNat e.array.val, BitVec.ofNat 8 (e.hostRow / 256), BitVec.ofNat 8 e.hostRow, 0xFF,
      byteNat e.target.val, 0xFF, 0xFF, e.origin.code] := by
  simp only [subReadBytes, h, beBytes_two]
  rfl

theorem doSpareRead_badArgument (h : 7 < n.toNat) : doSpareRead q (n :: rest) s = s.withReply q .badArgument [] := by
  simp only [doSpareRead, argNat_0_1, finOf?_none (Nat.succ_le_of_lt h), reply_eq]

theorem doSpareRead_reports {a : ArrayNo} (ha : a.val = n.toNat) :
    doSpareRead q (n :: rest) s = s.withReply q .ok (spareReadBytes s a) := by
  simp only [doSpareRead, argNat_0_1, finOf?_some ha, reply_eq]

/-! ## LANE-READ (R109) -/

theorem doLaneRead_badArgument (h : 7 < n.toNat) : doLaneRead q (n :: rest) s = s.withReply q .badArgument [] := by
  simp only [doLaneRead, argNat_0_1, finOf?_none (Nat.succ_le_of_lt h), reply_eq]

theorem doLaneRead_reports {a : ArrayNo} (ha : a.val = n.toNat) :
    doLaneRead q (n :: rest) s = s.withReply q .ok (laneReadBytes (s.steerOf a)) := by
  simp only [doLaneRead, argNat_0_1, finOf?_some ha, reply_eq]

end

/-- Settles O50: each report by the place its argument names, then its layout. -/
theorem reportsShowTheTables : Obligations.ReportsShowTheTables := by
  refine ⟨fun s q n rest h => ?map, fun s q n rest h => ?rows, fun s q args h => ⟨?lane, ?scrub, ?causes⟩⟩
  case map =>
    have hexec : exec (.mapRead q (n :: rest)) s = .next (doMapRead q (n :: rest) s) :=
      exec_row_executes (c := .mapRead) h (Nat.le_add_left 1 rest.length)
    rw [hexec]
    refine ⟨fun hn => congrArg _ (doMapRead_badArgument hn), fun i hi =>
      ⟨fun hs => congrArg _ (doMapRead_empty hi hs), fun e hs => congrArg _ ?_⟩⟩
    rw [doMapRead_reports hi hs, mapReadBytes, byteNat_of_val hi]
    simp only [beBytes_two]
    rfl
  case rows =>
    have hsub : exec (.subRead q (n :: rest)) s = .next (doSubRead q (n :: rest) s) :=
      exec_row_executes (c := .subRead) h (Nat.le_add_left 1 rest.length)
    have hspare : exec (.spareRead q (n :: rest)) s = .next (doSpareRead q (n :: rest) s) :=
      exec_row_executes (c := .spareRead) h (Nat.le_add_left 1 rest.length)
    rw [hsub, hspare]
    refine ⟨fun hn => congrArg _ (doSubRead_badArgument hn), fun i hi =>
      ⟨fun hs => congrArg _ (doSubRead_empty hi hs), fun e hs => ⟨fun src c hp => congrArg _ ?_, fun hp => congrArg _ ?_⟩⟩,
      fun hn => congrArg _ (doSpareRead_badArgument hn), fun a ha => congrArg _ ?_⟩
    · rw [doSubRead_reports hi hs, subReadBytes_copying hp]
      rfl
    · rw [doSubRead_reports hi hs, subReadBytes_active hp]
      rfl
    · rw [doSpareRead_reports ha]
      rfl
  case lane =>
    rintro n rest rfl
    have hexec : exec (.laneRead q (n :: rest)) s = .next (doLaneRead q (n :: rest) s) :=
      exec_row_executes (c := .laneRead) h (Nat.le_add_left 1 rest.length)
    rw [hexec]
    refine ⟨fun hn => congrArg _ (doLaneRead_badArgument hn), fun a ha => congrArg _ ?_⟩
    rw [doLaneRead_reports ha]
    cases s.steerOf a with
    | migrating k c o =>
      simp only [laneReadBytes, beBytes_four]
      rfl
    | normal | steered => rfl
  case scrub =>
    refine (exec_row_executes (c := .scrubRead) h (Nat.zero_le _)).trans (congrArg _ ?_)
    show s.withReply q .ok (scrubReadBytes s.scrub) = _
    simp only [scrubReadBytes, beBytes_two, beBytes_four]
    rfl
  case causes => exact exec_row_executes (c := .readCauses) h (Nat.zero_le _)

end Sys2Proof.Machine
end

section
/-! The statement on the Substitution Table and the spares through every step (R73, R74). -/

namespace Sys2Proof.Machine

set_option Elab.async false

/-- Settles O6: the Substitution Table is one of the invariants that every step keeps. -/
theorem stepsKeepSubstitutions : Obligations.StepsKeepSubstitutions :=
  fun _ _ hs h => (step_keeps h).subs hs

end Sys2Proof.Machine
end

section
/-! SUPPORT. The Row Substitution Engine by R76's table: one equation for each of its rows, for automatic and commanded
condemnations alike (R77 to R82). -/

namespace Sys2Proof.Machine

set_option Elab.async false

section
variable {s : State} {auto : Bool} {a : ArrayNo} {row : Nat}

/-! ## A host row (R77, R78, R82) -/

theorem condemnRowEngine_host (hrow : row < hostRows) : condemnRowEngine auto a row s = condemnHostRow auto a row s :=
  if_pos hrow

/-- A host row that has an entry is left to it (R78). -/
theorem condemnHostRow_served (h : entryFor s a row ≠ none) : condemnHostRow auto a row s = (s, .ignored) := by
  obtain ⟨x, hx⟩ := Option.ne_none_iff_exists'.mp h
  simp only [condemnHostRow, hx]

/-- With AUTO-SUB at 0 an automatic condemnation starts nothing (R82). -/
theorem condemnHostRow_off (h : entryFor s a row = none) (hoff : s.params.autoSub = false) :
    condemnHostRow true a row s = (s, .ignored) := by
  simp [condemnHostRow, h, hoff]

theorem condemnHostRow_copies (h : entryFor s a row = none) (hon : (auto && !s.params.autoSub) = false) {i : Fin 32}
    {p : SpareNo} (hi : freeEntry s = some i) (hp : freeSpare s a = some p) : condemnHostRow auto a row s =
      (setEntry i (some { array := a, hostRow := row, phase := .copying .hostRow 0, target := p,
                          origin := if auto then .auto else .host }) (setSpare a p .inUse s), .started) := by
  simp [condemnHostRow, h, hon, hi, hp]

theorem condemnHostRow_lacks (h : entryFor s a row = none) (hon : (auto && !s.params.autoSub) = false)
    (hnone : freeEntry s = none ∨ freeSpare s a = none) :
    condemnHostRow auto a row s = (raise .noSpare s, .noSpare) := by
  rcases hnone with hnone | hnone <;> simp [condemnHostRow, h, hon, hnone]

/-! ## A spare row (R79 to R82) -/

theorem condemnRowEngine_spare (p : SpareNo) :
    condemnRowEngine auto a (spareRow p) s = condemnSpare auto a p s := by
  have hrow : ¬spareRow p < hostRows := Nat.not_lt.mpr (Nat.le_add_right ..)
  simp only [condemnRowEngine, if_neg hrow, spareOfRow_spareRow]

theorem targetFor_eq_none_iff {p : SpareNo} : entryWhere s (fun e => decide (e.array = a ∧ e.target = p)) = none ↔
    ∀ (i : Fin 32) (e : SubEntry), s.subs.table.get i = some e → ¬(e.array = a ∧ e.target = p) := by
  constructor
  · exact fun h i e hi => of_decide_eq_false (entryWhere_none h hi)
  · intro h
    cases hf : entryWhere s (fun e => decide (e.array = a ∧ e.target = p)) with
    | none => rfl
    | some x =>
      obtain ⟨hi, hx⟩ := entryWhere_some hf
      exact absurd (of_decide_eq_true hx) (h x.1 x.2 hi)

/-- A spare that is the target of no entry starts nothing (R81). -/
theorem condemnSpare_ignored {p : SpareNo} (h : ∀ i : Fin 32, ∀ e ∈ s.subs.table.get i, ¬(e.array = a ∧ e.target = p)) :
    condemnSpare auto a p s = (s, .ignored) := by
  simp only [condemnSpare, targetFor_eq_none_iff.mpr h]

section
variable {i : Fin 32} {e : SubEntry}

theorem usesAt_target (hi : s.subs.table.get i = some e) : usesAt e.array e.target (s.subs.table.get i) := by
  rw [hi, usesAt_some, uses_iff]
  exact ⟨rfl, .inl rfl⟩

/-- With each spare used by at most one entry, the entry of a target is the one that writes it (R74). -/
theorem targetFor_eq_some (hs : SubsOk s) (hi : s.subs.table.get i = some e) :
    entryWhere s (fun x => decide (x.array = e.array ∧ x.target = e.target)) = some (i, e) := by
  cases hf : entryWhere s (fun x => decide (x.array = e.array ∧ x.target = e.target)) with
  | none => exact absurd ⟨rfl, rfl⟩ (targetFor_eq_none_iff.mp hf i e hi)
  | some x =>
    obtain ⟨j, f⟩ := x
    obtain ⟨hj, hft⟩ := entryWhere_some hf
    obtain ⟨ha, ht⟩ := of_decide_eq_true hft
    obtain rfl := hs.user_unique (usesAt_target hi) (ha ▸ ht ▸ usesAt_target hj)
    rw [hi] at hj
    cases hj
    rfl

theorem spare_target (hs : SubsOk s) (hi : s.subs.table.get i = some e) : s.spare e.array e.target = .inUse :=
  hs.inUse (usesAt_target hi)

theorem condemnSpare_active (hs : SubsOk s) (hi : s.subs.table.get i = some e) (hp : e.phase = .active) :
    condemnSpare auto e.array e.target s = retarget auto e.array i e s := by
  simp only [condemnSpare, targetFor_eq_some hs hi, hp]

theorem condemnSpare_copying (hs : SubsOk s) (hi : s.subs.table.get i = some e) {src : CopySource} {c : Nat}
    (hp : e.phase = .copying src c) : condemnSpare auto e.array e.target s = replaceTarget e.array i e src s := by
  simp only [condemnSpare, targetFor_eq_some hs hi, hp]

/-! ## The re-target (R79, R82) -/

theorem retarget_off (hoff : s.params.autoSub = false) : retarget true a i e s = (s, .ignored) := by
  simp [retarget, hoff]

theorem retarget_copies (hon : (auto && !s.params.autoSub) = false) {p : SpareNo} (hp : freeSpare s a = some p) :
    retarget auto a i e s = (setEntry i (some { e with phase := .copying (.spare e.target) 0, target := p,
                                                       origin := if auto then .auto else .host })
      (setSpare a p .inUse s), .started) := by
  simp [retarget, hon, hp]

theorem retarget_lacks (hon : (auto && !s.params.autoSub) = false) (hp : freeSpare s a = none) :
    retarget auto a i e s = (raise .noSpare s, .noSpare) := by
  simp [retarget, hon, hp]

/-! ## The restart (R80) -/

/-- The state in which the target of a COPYING entry has been RETIRED and its copy in hand is void, before the engine looks
for another spare (R80). -/
def targetRetired (a : ArrayNo) (i : Fin 32) (t : SpareNo) (s : State) : State := voidCopy a i (setSpare a t .retired s)

@[simp] theorem targetRetired_table (t : SpareNo) : (targetRetired a i t s).subs.table = s.subs.table := by
  rw [targetRetired, voidCopy_subs, table_setSpare]

@[simp] theorem spare_targetRetired (t p : SpareNo) (b : ArrayNo) : (targetRetired a i t s).spare b p =
    if b = a ∧ p = t then .retired else s.spare b p := by
  rw [targetRetired, spare_voidCopy, spare_setSpare]

theorem targetRetired_frame (t : SpareNo) : targetRetired a i t s =
    { s with subs := (targetRetired a i t s).subs, turns := (targetRetired a i t s).turns } := by
  rw [targetRetired, voidCopy, mapTurn_frame]
  rfl

/-- The spare that is RETIRED was in use, so it is no other spare that is FREE (R74, R80). -/
theorem freeSpare_targetRetired {t : SpareNo} (h : s.spare a t ≠ .free) :
    freeSpare (targetRetired a i t s) a = freeSpare s a := by
  unfold freeSpare
  congr 1
  funext p
  rw [spare_targetRetired]
  split
  next hp =>
    obtain ⟨-, rfl⟩ := hp
    rw [beq_false_of_ne h]
    rfl
  · rfl

theorem replaceTarget_restarts (h : s.spare a e.target ≠ .free) {p : SpareNo} (hp : freeSpare s a = some p)
    (src : CopySource) : replaceTarget a i e src s =
      (setEntry i (some { e with phase := .copying src 0, target := p })
        (setSpare a p .inUse (targetRetired a i e.target s)), .started) := by
  rw [← freeSpare_targetRetired (i := i) h, targetRetired] at hp
  simp only [replaceTarget, hp, targetRetired]

theorem replaceTarget_abandons (h : s.spare a e.target ≠ .free) (hp : freeSpare s a = none) (src : CopySource) :
    replaceTarget a i e src s =
      (raise .noSpare (setEntry i (e.givenUp src) (targetRetired a i e.target s)), .noSpare) := by
  rw [← freeSpare_targetRetired (i := i) h, targetRetired] at hp
  simp only [replaceTarget, hp, targetRetired]

/-- What the condemnation of a COPYING entry's target leaves in `t`, with `p` the spare that is FREE, if one is: the copy
started again on it, or given up with NO-SPARE (R80). -/
structure TargetReplaced (a : ArrayNo) (i : Fin 32) (e : SubEntry) (src : CopySource) (p : Option SpareNo)
    (s t : State) : Prop where
  table : ∀ j, t.subs.table.get j = if j = i then (match p with
    | some p => some { e with phase := .copying src 0, target := p }
    | none => e.givenUp src) else s.subs.table.get j
  spare : ∀ b x, t.spare b x = if b = a ∧ p = some x then .inUse
    else if b = a ∧ x = e.target then .retired else s.spare b x
  turns : t.turns = (targetRetired a i e.target s).turns
  alert : t.alert = if p.isSome then s.alert else { s.alert with flags := s.alert.flags ||| 0x40 }

theorem TargetReplaced.retired {src : CopySource} {p : Option SpareNo} {t : State}
    (h : TargetReplaced a i e src p s t) (hp : p ≠ some e.target) : t.spare a e.target = .retired := by
  rw [h.spare, if_neg fun ⟨_, ht⟩ => hp ht, if_pos ⟨rfl, rfl⟩]

theorem targetRetired_alert (t : SpareNo) : (targetRetired a i t s).alert = s.alert := by rw [targetRetired_frame]

theorem replaceTarget_replaces (h : s.spare a e.target ≠ .free) (src : CopySource) :
    TargetReplaced a i e src (freeSpare s a) s (replaceTarget a i e src s).1 := by
  cases hp : freeSpare s a with
  | some p =>
    rw [replaceTarget_restarts h hp]
    refine ⟨fun j => ?_, fun b x => ?_, rfl, targetRetired_alert _⟩
    · rw [table_setEntry, table_setSpare, targetRetired_table]
    · simp only [spare_setEntry, spare_setSpare, spare_targetRetired, Option.some.injEq, eq_comm (a := x) (b := p)]
  | none =>
    rw [replaceTarget_abandons h hp]
    refine ⟨fun j => ?_, fun b x => ?_, raise_turns .., ?_⟩
    · rw [raise_subs, table_setEntry, targetRetired_table]
    · simp only [spare_congr (raise_subs ..), spare_setEntry, spare_targetRetired, reduceCtorEq, and_false, if_false]
    · rw [raise_alert, setEntry_alert, targetRetired_alert]
      rfl

theorem replaceTarget_outcome (h : s.spare a e.target ≠ .free) (src : CopySource) :
    (replaceTarget a i e src s).2 = if (freeSpare s a).isSome then .started else .noSpare := by
  cases hp : freeSpare s a with
  | some p => rw [replaceTarget_restarts h hp]; rfl
  | none => rw [replaceTarget_abandons h hp]; rfl

/-- The copy in hand of an entry that is given up or started again is void (R80, R83, R88). -/
theorem voidCopy_hand {h : CopyHand} {sw tw : PhysIndex} {r : SteerRecord}
    (ht : s.turn a = some { work := .copy h sw tw, steer := r }) (hi : h.entry = i) :
    (voidCopy a i s).turn a = some { work := .copy { h with void := true } sw tw, steer := r } := by
  rw [voidCopy, turn_mapTurn_of_some ht, TurnWork.voidCopy, if_pos hi]

theorem targetRetired_hand {h : CopyHand} {sw tw : PhysIndex} {r : SteerRecord}
    (ht : s.turn a = some { work := .copy h sw tw, steer := r }) (hi : h.entry = i) (t : SpareNo) :
    (targetRetired a i t s).turn a = some { work := .copy { h with void := true } sw tw, steer := r } :=
  voidCopy_hand (s := setSpare a t .retired s) ht hi

/-- What is left of an entry whose copy is given up, by its source (R80, R88). -/
theorem givenUp_eq (e : SubEntry) (src : CopySource) : e.givenUp src = match src with
    | .hostRow => none
    | .spare p => some { e with phase := .active, target := p } := rfl

end
end

end Sys2Proof.Machine
end

section
/-! The statement on CONDEMN-ROW (R77 to R81, R87). -/

namespace Sys2Proof.Machine

set_option Elab.async false

section
variable {s : State} {q : Byte} {args : List Byte}

theorem doCondemnRow_refused (h1 : s.path.path ≠ .setup) (h2 : s.path.path ≠ .opened) :
    doCondemnRow q args s = s.withReply q .refusedState [] := by
  unfold doCondemnRow
  split
  next hp => exact absurd hp h1
  next hp => exact absurd hp h2
  all_goals rfl

theorem doCondemnRow_noArray (hp : s.path.path = .setup ∨ s.path.path = .opened)
    (hn : installedArg s (argNat args 0 1) = none) : doCondemnRow q args s = s.withReply q .badArgument [] := by
  rcases hp with hp | hp <;> simp only [doCondemnRow, hp, hn, reply_eq]

theorem doCondemnRow_noRow (hp : s.path.path = .setup ∨ s.path.path = .opened) {n : ArrayNo}
    (hn : installedArg s (argNat args 0 1) = some n) (hrow : rowCondemnable s n (argNat args 1 2) = false) :
    doCondemnRow q args s = s.withReply q .badArgument [] := by
  rcases hp with hp | hp <;> simp only [doCondemnRow, hp, hn, hrow, Bool.false_eq_true, if_false, reply_eq]

/-- A row that may be condemned goes to the engine, and the reply follows the outcome (R87). -/
theorem doCondemnRow_condemns (hp : s.path.path = .setup ∨ s.path.path = .opened) {n : ArrayNo}
    (hn : installedArg s (argNat args 0 1) = some n) (hrow : rowCondemnable s n (argNat args 1 2) = true)
    {x : State × RepairOutcome} (h : condemnRowEngine false n (argNat args 1 2) s = x) :
    doCondemnRow q args s = x.1.withReply q x.2.reply [] := by
  rcases hp with hp | hp <;> simp only [doCondemnRow, hp, hn, hrow, if_true, h, reply_eq]

end

/-! ## The rows CONDEMN-ROW may name (R87) -/

theorem rowCondemnable_host {row : Nat} (h : row < hostRows) (s : State) (n : ArrayNo) :
    rowCondemnable s n row = true := if_pos h

theorem rowCondemnable_beyond {row : Nat} (h : physRows ≤ row) (s : State) (n : ArrayNo) :
    rowCondemnable s n row = false := by
  have hhost : hostRows ≤ row := Nat.le_trans (by decide) h
  have hspare : spareOfRow row = none := by
    rw [spareOfRow, if_pos hhost]
    exact finOf?_none (Nat.le_sub_of_add_le' h)
  simp only [rowCondemnable, if_neg (Nat.not_lt.mpr hhost), hspare]

theorem rowCondemnable_spare (s : State) (n : ArrayNo) (p : SpareNo) : rowCondemnable s n (spareRow p) =
    (s.spare n p == .inUse && (entryWhere s (fun e => decide (e.array = n ∧ e.target = p))).isSome) := by
  have hrow : ¬spareRow p < hostRows := Nat.not_lt.mpr (Nat.le_add_right ..)
  simp only [rowCondemnable, if_neg hrow, spareOfRow_spareRow]

theorem rowCondemnable_target {s : State} (hs : SubsOk s) {i : Fin 32} {e : SubEntry}
    (hi : s.subs.table.get i = some e) : rowCondemnable s e.array (spareRow e.target) = true := by
  rw [rowCondemnable_spare, spare_target hs hi, targetFor_eq_some hs hi]
  rfl

theorem rowCondemnable_no_target {s : State} {n : ArrayNo} {p : SpareNo}
    (h : ∀ i : Fin 32, ∀ e ∈ s.subs.table.get i, ¬(e.array = n ∧ e.target = p)) :
    rowCondemnable s n (spareRow p) = false := by
  rw [rowCondemnable_spare, targetFor_eq_none_iff.mpr h]
  exact Bool.and_false _

/-! ## The command -/

section
variable {s : State} {q a r1 r0 : Byte} {rest : List Byte}

/-- A frame of CONDEMN-ROW with its three argument bytes, executed (R189). -/
theorem exec_condemnRow (h : WillExecute q (a :: r1 :: r0 :: rest) s) :
    exec (.condemnRow q (a :: r1 :: r0 :: rest)) s = .next (doCondemnRow q (a :: r1 :: r0 :: rest) s) :=
  exec_row_executes (c := .condemnRow) h (Nat.le_add_left 3 rest.length)

/-- The path states that take CONDEMN-ROW are not the one in which a raise begins a wake (R87, R165). -/
theorem not_quiet_of_takes (hp : s.path.path = .setup ∨ s.path.path = .opened) : s.path.path ≠ .quiet := by
  rcases hp with hp | hp <;> exact hp.trans_ne nofun

variable {n : ArrayNo}

theorem exec_condemnRow_condemns (h : WillExecute q (a :: r1 :: r0 :: rest) s)
    (hp : s.path.path = .setup ∨ s.path.path = .opened) (ha : n.val = a.toNat) (hn : n.val < s.params.arrays.count)
    {row : Nat} (hr : r1.toNat * 256 + r0.toNat = row) (hrow : rowCondemnable s n row = true)
    {x : State × RepairOutcome} (hx : condemnRowEngine false n row s = x) :
    exec (.condemnRow q (a :: r1 :: r0 :: rest)) s = .next (x.1.withReply q x.2.reply []) := by
  rw [exec_condemnRow h]
  refine congrArg _ (doCondemnRow_condemns hp (installedArg_some (ha.trans (argNat_0_1 ..).symm) hn) ?_ ?_)
  · rw [argNat_1_2, hr]
    exact hrow
  · rw [argNat_1_2, hr]
    exact hx

theorem exec_condemnRow_noRow (h : WillExecute q (a :: r1 :: r0 :: rest) s)
    (hp : s.path.path = .setup ∨ s.path.path = .opened) {row : Nat} (hr : r1.toNat * 256 + r0.toNat = row)
    (hrow : ∀ n, installedArg s a.toNat = some n → rowCondemnable s n row = false) :
    exec (.condemnRow q (a :: r1 :: r0 :: rest)) s = .next (s.withReply q .badArgument []) := by
  rw [exec_condemnRow h]
  cases hn : installedArg s a.toNat with
  | none => exact congrArg _ (doCondemnRow_noArray hp (by rw [argNat_0_1, hn]))
  | some n =>
    refine congrArg _ (doCondemnRow_noRow hp (n := n) (by rw [argNat_0_1, hn]) ?_)
    rw [argNat_1_2, hr]
    exact hrow n hn

end

/-- Where no wake can begin a condemnation leaves the path state (R165). -/
theorem condemnRowEngine_path {s : State} (hp : s.path.path ≠ .quiet) (auto : Bool) (a : ArrayNo) (row : Nat) :
    (condemnRowEngine auto a row s).1.path = s.path :=
  (condemnRowEngine_reachesAt auto a row s).path.elim id fun h => absurd h.1 hp

/-- Settles O58: the engine takes the rows that may be named, and its outcome is what R76's table says. -/
theorem condemnRowStartsRepairs : Obligations.CondemnRowStartsRepairs := by
  refine ⟨fun s q a r1 r0 rest row hrow h => ⟨?refused, fun hp => ⟨?bad, fun n ha hn hhost => ?host⟩⟩,
    fun s q a r1 r0 rest n p hs hrow ha hn h hp => ⟨?unused, fun i e hi he ht => ?target⟩⟩
  case refused =>
    intro h1 h2
    rw [exec_condemnRow h, doCondemnRow_refused h1 h2]
  case bad =>
    refine fun hbad => exec_condemnRow_noRow h hp hrow.symm fun n hn => ?_
    rcases hbad with hbad | hbad
    · cases (installedArg_none hbad).symm.trans hn
    · exact rowCondemnable_beyond hbad s n
  case host =>
    have hexec {x : State × RepairOutcome} (hx : condemnHostRow false n row s = x) :=
      exec_condemnRow_condemns h hp ha hn hrow.symm (rowCondemnable_host hhost s n)
        ((condemnRowEngine_host hhost).trans hx)
    refine ⟨fun hfor => ?_, fun i p hfor hi hfree => ?_, fun hfor hnone => ?_⟩
    · exact hexec (condemnHostRow_served (Option.isSome_iff_ne_none.mp hfor))
    · exact hexec (condemnHostRow_copies hfor rfl hi hfree)
    · have hlacks := hexec (condemnHostRow_lacks hfor rfl hnone)
      rwa [raise_outside_quiet (not_quiet_of_takes hp)] at hlacks
  case unused =>
    refine fun hno => exec_condemnRow_noRow h hp hrow fun m hm => ?_
    obtain rfl : n = m := Option.some.inj ((installedArg_some ha hn).symm.trans hm)
    exact rowCondemnable_no_target hno
  case target =>
    subst he ht
    have hexec {x : State × RepairOutcome} (hx : condemnSpare false e.array e.target s = x) :=
      exec_condemnRow_condemns h hp ha hn hrow (rowCondemnable_target hs hi)
        ((condemnRowEngine_spare e.target).trans hx)
    refine ⟨fun hact => ?active, fun src c hcopy => ?copying⟩
    case active =>
      rw [condemnSpare_active hs hi hact] at hexec
      refine ⟨fun p' hfree => hexec (retarget_copies rfl hfree), fun hnone => ?_⟩
      have hlacks := hexec (retarget_lacks rfl hnone)
      rwa [raise_outside_quiet (not_quiet_of_takes hp)] at hlacks
    case copying =>
      have hx := condemnSpare_copying (auto := false) hs hi hcopy
      have hused : s.spare e.array e.target = .inUse := spare_target hs hi
      have hr := replaceTarget_replaces (i := i) (hused.trans_ne nofun) src
      refine ⟨(replaceTarget e.array i e src s).1, (hexec hx).trans ?_, ?_, fun p' hfree => ?_, fun hnone => ?_,
        fun j hj => ?_, fun hand sw tw r hturn hentry => ?_, ?_⟩
      · rw [replaceTarget_outcome (hused.trans_ne nofun)]
        cases freeSpare s e.array <;> rfl
      · exact hr.retired fun hfree => by cases hused.symm.trans (freeSpare_some hfree)
      · rw [hr.spare, hr.table, hr.alert, hfree]
        exact ⟨if_pos ⟨rfl, rfl⟩, if_pos rfl, rfl⟩
      · rw [hr.table, hr.alert, hnone, if_pos rfl]
        exact ⟨givenUp_eq e src, rfl⟩
      · rw [hr.table, if_neg hj]
      · exact (turn_congr hr.turns _).trans (targetRetired_hand hturn hentry _)
      · rw [← hx, ← condemnRowEngine_spare]
        have hsame := condemnRowEngine_same false e.array (spareRow e.target) s
        exact ⟨condemnRowEngine_map .., condemnRowEngine_steer .., condemnRowEngine_path (not_quiet_of_takes hp) ..,
          hsame.scrub, hsame.queue, hsame.port, hsame.link,
          ⟨hsame.params, hsame.busReset, hsame.supplyWarning, hsame.epoch, hsame.pending⟩, hsame.mem⟩

end Sys2Proof.Machine
end

section
/-! The statement on SUB-CANCEL, SUB-LOAD and SPARE-RETIRE (R83, R88 to R90). -/

namespace Sys2Proof.Machine

set_option Elab.async false

/-! ## SUB-CANCEL (R83, R88) -/

section
variable {s : State} {q n : Byte} {rest : List Byte}

theorem doSubCancel_badArgument (h : 31 < n.toNat) : doSubCancel q (n :: rest) s = s.withReply q .badArgument [] := by
  simp only [doSubCancel, argNat_0_1, finOf?_none (Nat.succ_le_of_lt h), reply_eq]

section
variable {i : Fin 32} (hi : i.val = n.toNat)
include hi

theorem doSubCancel_empty (hs : s.subs.table.get i = none) :
    doSubCancel q (n :: rest) s = s.withReply q .empty [] := by
  simp only [doSubCancel, argNat_0_1, finOf?_some hi, hs, reply_eq]

theorem doSubCancel_active {e : SubEntry} (hs : s.subs.table.get i = some e) (hp : e.phase = .active) :
    doSubCancel q (n :: rest) s = s.withReply q .badArgument [] := by
  simp only [doSubCancel, argNat_0_1, finOf?_some hi, hs, hp, reply_eq]

theorem doSubCancel_cancels {e : SubEntry} (hs : s.subs.table.get i = some e) {src : CopySource} {c : Nat}
    (hp : e.phase = .copying src c) :
    doSubCancel q (n :: rest) s = (cancelCopy i e src s).withReply q .ok [] := by
  simp only [doSubCancel, argNat_0_1, finOf?_some hi, hs, hp, reply_eq]

end
end

section
variable (i : Fin 32) (e : SubEntry) (src : CopySource) (s : State)

theorem cancelCopy_table (j : Fin 32) :
    (cancelCopy i e src s).subs.table.get j = if j = i then e.givenUp src else s.subs.table.get j := by
  rw [cancelCopy, table_setEntry, table_setSpare, voidCopy_subs]

theorem cancelCopy_spare (b : ArrayNo) (p : SpareNo) :
    (cancelCopy i e src s).spare b p = if b = e.array ∧ p = e.target then .free else s.spare b p := by
  rw [cancelCopy, spare_setEntry, spare_setSpare, spare_voidCopy]

/-- A cancelled copy changes the table, the spares and the turns, and nothing else. -/
theorem cancelCopy_frame : cancelCopy i e src s =
    { s with subs := (cancelCopy i e src s).subs, turns := (cancelCopy i e src s).turns } := by
  rw [cancelCopy, voidCopy, mapTurn_frame]
  rfl

end

/-! ## SUB-LOAD (R89) -/

section
variable {s : State} {q : Byte} {args : List Byte}

theorem doSubLoad_refused (h : s.path.path ≠ .setup) : doSubLoad q args s = s.withReply q .refusedState [] := by
  unfold doSubLoad
  split
  next hp => exact absurd hp h
  all_goals rfl

theorem doSubLoad_badArgument (hp : s.path.path = .setup) (h : loadArgs s args = none) :
    doSubLoad q args s = s.withReply q .badArgument [] := by
  simp only [doSubLoad, hp, h, reply_eq]

section
variable {a : ArrayNo} {row : Nat} {p : SpareNo} (hp : s.path.path = .setup) (h : loadArgs s args = some (a, row, p))
include hp h

theorem doSubLoad_noSpare (hi : freeEntry s = none) : doSubLoad q args s = s.withReply q .noSpare [] := by
  simp only [doSubLoad, hp, h, hi, reply_eq]

theorem doSubLoad_loads {i : Fin 32} (hi : freeEntry s = some i) :
    doSubLoad q args s = (setEntry i
      (some { array := a, hostRow := row, phase := .active, target := p, origin := .loaded })
      (setSpare a p .inUse s)).withReply q .ok [] := by
  simp only [doSubLoad, hp, h, hi, reply_eq]

end
end

section
variable {s : State} {a r1 r0 b : Byte} {rest : List Byte}

/-- The arguments of a SUB-LOAD are as R89 asks: an installed array, a FREE spare of it, and a host row without an entry. -/
theorem loadArgs_eq_some_iff {n : ArrayNo} {row : Nat} {p : SpareNo} :
    loadArgs s (a :: r1 :: r0 :: b :: rest) = some (n, row, p) ↔
      installedArg s a.toNat = some n ∧ p.val = b.toNat ∧ row = r1.toNat * 256 + r0.toNat ∧ row < hostRows ∧
        s.spare n p = .free ∧ entryFor s n row = none := by
  simp only [loadArgs, argNat_0_1, argNat_1_2, argNat_3_1]
  constructor
  · intro h
    split at h
    next m t hm ht =>
      split at h
      next hok =>
        cases h
        obtain ⟨hrow, hfree, hfor⟩ := hok
        exact ⟨hm, finOf?_eq_some ht, rfl, hrow, hfree, Option.isNone_iff_eq_none.mp hfor⟩
      · cases h
    · cases h
  · rintro ⟨hn, hb, rfl, hrow, hfree, hfor⟩
    simp [hn, finOf?_some hb, hrow, hfree, hfor]

theorem loadArgs_eq_none (h : ∀ (n : ArrayNo) (p : SpareNo), installedArg s a.toNat = some n → p.val = b.toNat →
      r1.toNat * 256 + r0.toNat < hostRows → s.spare n p = .free →
      entryFor s n (r1.toNat * 256 + r0.toNat) ≠ none) : loadArgs s (a :: r1 :: r0 :: b :: rest) = none := by
  refine Option.eq_none_iff_forall_ne_some.mpr fun ⟨n, row, p⟩ hx => ?_
  obtain ⟨hn, hb, rfl, hrow, hfree, hfor⟩ := loadArgs_eq_some_iff.mp hx
  exact h n p hn hb hrow hfree hfor

/-- A frame of SUB-LOAD with its four argument bytes, executed (R189). -/
theorem exec_subLoad {q : Byte} (h : WillExecute q (a :: r1 :: r0 :: b :: rest) s) :
    exec (.subLoad q (a :: r1 :: r0 :: b :: rest)) s = .next (doSubLoad q (a :: r1 :: r0 :: b :: rest) s) :=
  exec_row_executes (c := .subLoad) h (Nat.le_add_left 4 rest.length)

end

/-! ## SPARE-RETIRE (R90) -/

section
variable {s : State} {q a b : Byte} {rest : List Byte}

theorem doSpareRetire_noSpare (h : installedArg s a.toNat = none ∨ 15 < b.toNat) :
    doSpareRetire q (a :: b :: rest) s = s.withReply q .badArgument [] := by
  rcases h with h | h
  · simp only [doSpareRetire, argNat_0_1, h, reply_eq]
  · simp only [doSpareRetire, argNat_0_1, argNat_1_1, finOf?_none (Nat.succ_le_of_lt h)]
    cases installedArg s a.toNat <;> rfl

/-- A spare that is named answers by its status (R90). -/
theorem doSpareRetire_spare {n : ArrayNo} {p : SpareNo} (hn : installedArg s a.toNat = some n) (hp : p.val = b.toNat) :
    doSpareRetire q (a :: b :: rest) s = match s.spare n p with
      | .inUse => s.withReply q .badArgument []
      | .free => (setSpare n p .retired s).withReply q .ok []
      | .retired => s.withReply q .ok [] := by
  simp only [doSpareRetire, argNat_0_1, argNat_1_1, hn, finOf?_some hp]
  cases s.spare n p <;> rfl

/-- A frame of SPARE-RETIRE with its two argument bytes, executed (R189). -/
theorem exec_spareRetire (h : WillExecute q (a :: b :: rest) s) :
    exec (.spareRetire q (a :: b :: rest)) s = .next (doSpareRetire q (a :: b :: rest) s) :=
  exec_row_executes (c := .spareRetire) h (Nat.le_add_left 2 rest.length)

end

/-- Settles O59: each command by the entry or the spare its arguments name. -/
theorem repairsGivenUpLoadedRetired : Obligations.RepairsGivenUpLoadedRetired := by
  refine ⟨fun s q n rest h => ?cancel, fun s q a => ⟨fun ha => ⟨?noArrayLoad, ?noArrayRetire⟩,
    fun n ha hn => ⟨fun r1 r0 b rest h => ⟨?refused, fun hp => ⟨?bad, ?load⟩⟩, fun b rest h => ?retire⟩⟩⟩
  case cancel =>
    have hexec : exec (.subCancel q (n :: rest)) s = .next (doSubCancel q (n :: rest) s) :=
      exec_row_executes (c := .subCancel) h (Nat.le_add_left 1 rest.length)
    rw [hexec]
    refine ⟨fun hn => congrArg _ (doSubCancel_badArgument hn), fun i hi =>
      ⟨fun hs => congrArg _ (doSubCancel_empty hi hs), fun e hs =>
      ⟨fun hp => congrArg _ (doSubCancel_active hi hs hp), fun src c hp =>
      ⟨cancelCopy i e src s, congrArg _ (doSubCancel_cancels hi hs hp), ?_, fun j hj => ?_, cancelCopy_spare i e src s,
        fun hand sw tw r hturn hentry => ?_, ?_⟩⟩⟩⟩
    · exact (cancelCopy_table i e src s i).trans ((if_pos rfl).trans (givenUp_eq e src))
    · rw [cancelCopy_table, if_neg hj]
    · exact voidCopy_hand hturn hentry
    · rw [cancelCopy_frame]
      exact ⟨rfl, rfl, rfl, rfl, rfl, rfl, rfl, rfl, ⟨rfl, rfl, rfl, rfl, rfl⟩, rfl⟩
  case noArrayLoad =>
    intro r1 r0 b rest h
    rw [exec_subLoad h]
    split
    next hp =>
      refine congrArg _ (doSubLoad_badArgument hp (loadArgs_eq_none fun n p hn => ?_))
      cases (installedArg_none ha).symm.trans hn
    next hp => exact congrArg _ (doSubLoad_refused hp)
  case noArrayRetire =>
    intro b rest h
    rw [exec_spareRetire h, doSpareRetire_noSpare (.inl (installedArg_none ha))]
  case refused =>
    intro hp
    rw [exec_subLoad h, doSubLoad_refused hp]
  case bad =>
    intro hbad
    rw [exec_subLoad h]
    refine congrArg _ (doSubLoad_badArgument hp (loadArgs_eq_none fun m p hm hb hrow hfree hfor => ?_))
    obtain rfl : n = m := Option.some.inj ((installedArg_some ha hn).symm.trans hm)
    rcases hbad with hbad | hbad | ⟨p', hb', hused⟩ | hbad
    · exact Nat.not_lt.mpr hbad hrow
    · omega
    · obtain rfl : p' = p := Fin.ext (hb'.trans hb.symm)
      exact hused hfree
    · simp [hfor] at hbad
  case load =>
    intro p hb hrow hfree hfor
    have hargs : loadArgs s (a :: r1 :: r0 :: b :: rest) = some (n, r1.toNat * 256 + r0.toNat, p) :=
      loadArgs_eq_some_iff.mpr ⟨installedArg_some ha hn, hb, rfl, Nat.lt_succ_of_le hrow, hfree, hfor⟩
    rw [exec_subLoad h]
    exact ⟨fun hi => congrArg _ (doSubLoad_noSpare hp hargs hi), fun i hi => congrArg _ (doSubLoad_loads hp hargs hi)⟩
  case retire =>
    rw [exec_spareRetire h]
    refine ⟨fun hb => congrArg _ (doSpareRetire_noSpare (.inr hb)), fun p hb => ?_⟩
    rw [doSpareRetire_spare (installedArg_some ha hn) hb]
    exact ⟨fun hst => by rw [hst], fun hst => by rw [hst], fun hst => by rw [hst]⟩

end Sys2Proof.Machine
end

section
/-! SUPPORT. A condemnation goes by the repair tables alone, so what an occurrence hands to the Row Substitution Engine comes
out as if it had been handed over in the state before the occurrence (R63, R76). -/

namespace Sys2Proof.Machine

set_option Elab.async false

/-! ## The engine over states with the same tables -/

@[simp] theorem voidCopy_params (a : ArrayNo) (i : Fin 32) (s : State) : (voidCopy a i s).params = s.params := by
  rw [voidCopy, mapTurn_frame]

@[simp] theorem voidCopy_alert (a : ArrayNo) (i : Fin 32) (s : State) : (voidCopy a i s).alert = s.alert := by
  rw [voidCopy, mapTurn_frame]

/-- Two states with the same repair tables, turns, parameters and NO-SPARE flag. -/
structure SameRepairs (s t : State) : Prop where
  subs : t.subs = s.subs
  turns : t.turns = s.turns
  params : t.params = s.params
  noSpare : t.alert.flags.getLsbD 6 = s.alert.flags.getLsbD 6

section
variable {s t : State} (h : SameRepairs s t)
include h

theorem SameRepairs.setSpare (a : ArrayNo) (p : SpareNo) (x : SpareStatus) :
    SameRepairs (setSpare a p x s) (setSpare a p x t) :=
  ⟨by simp only [setSpare_subs, h.subs], h.turns, h.params, h.noSpare⟩

theorem SameRepairs.setEntry (i : Fin 32) (e : Option SubEntry) : SameRepairs (setEntry i e s) (setEntry i e t) :=
  ⟨by simp only [setEntry_subs, h.subs], h.turns, h.params, h.noSpare⟩

theorem SameRepairs.voidCopy (a : ArrayNo) (i : Fin 32) : SameRepairs (voidCopy a i s) (voidCopy a i t) := by
  refine ⟨?_, mapTurn_turns_congr h.turns a _, ?_, ?_⟩
  · rw [voidCopy_subs, voidCopy_subs, h.subs]
  · rw [voidCopy_params, voidCopy_params, h.params]
  · rw [voidCopy_alert, voidCopy_alert, h.noSpare]

theorem SameRepairs.raise (f : AlertFlag) : SameRepairs (raise f s) (raise f t) := by
  refine ⟨?_, ?_, ?_, ?_⟩
  · rw [raise_subs, raise_subs, h.subs]
  · rw [raise_turns, raise_turns, h.turns]
  · rw [raise_params, raise_params, h.params]
  · rw [getLsbD_raise, getLsbD_raise, h.noSpare]

theorem SameRepairs.entryWhere (p : SubEntry → Bool) : entryWhere t p = entryWhere s p := by
  simp only [Machine.entryWhere, h.subs]

theorem SameRepairs.condemnHostRow (auto : Bool) (a : ArrayNo) (row : Nat) :
    SameRepairs (condemnHostRow auto a row s).1 (condemnHostRow auto a row t).1 := by
  unfold Machine.condemnHostRow
  rw [entryFor_congr h.subs, h.params, freeEntry_congr h.subs, freeSpare_congr h.subs]
  split
  · exact h
  · split
    · exact h
    · split
      · exact (h.setSpare ..).setEntry ..
      · exact h.raise _

theorem SameRepairs.retarget (auto : Bool) (a : ArrayNo) (i : Fin 32) (e : SubEntry) :
    SameRepairs (retarget auto a i e s).1 (retarget auto a i e t).1 := by
  unfold Machine.retarget
  rw [h.params, freeSpare_congr h.subs]
  split
  · exact h
  · split
    · exact (h.setSpare ..).setEntry ..
    · exact h.raise _

theorem SameRepairs.replaceTarget (a : ArrayNo) (i : Fin 32) (e : SubEntry) (src : CopySource) :
    SameRepairs (replaceTarget a i e src s).1 (replaceTarget a i e src t).1 := by
  have hvoid := (h.setSpare a e.target .retired).voidCopy a i
  unfold Machine.replaceTarget
  dsimp only
  rw [freeSpare_congr hvoid.subs]
  split
  · exact (hvoid.setSpare ..).setEntry ..
  · exact (hvoid.setEntry ..).raise _

theorem SameRepairs.condemnSpare (auto : Bool) (a : ArrayNo) (p : SpareNo) :
    SameRepairs (condemnSpare auto a p s).1 (condemnSpare auto a p t).1 := by
  unfold Machine.condemnSpare
  rw [h.entryWhere]
  split
  · exact h
  · split
    · exact h.retarget ..
    · exact h.replaceTarget ..

theorem SameRepairs.condemnRowEngine (auto : Bool) (a : ArrayNo) (row : Nat) :
    SameRepairs (condemnRowEngine auto a row s).1 (condemnRowEngine auto a row t).1 := by
  unfold Machine.condemnRowEngine
  split
  · exact h.condemnHostRow ..
  · split
    · exact h.condemnSpare ..
    · exact h

end

/-! ## The condemnation of a lane after that of a row (R63) -/

/-- What of `s`, in which a row's condemnation has done its work, still holds in `t`, where a lane of the array may have been
condemned too: the tables, NO-SPARE raised, the copy in hand; and without such a lane all turns and NO-SPARE. -/
structure AfterLane (a : ArrayNo) (lane : Prop) (s t : State) : Prop where
  subs : t.subs = s.subs
  noSpare : s.alert.flags.getLsbD 6 = true → t.alert.flags.getLsbD 6 = true
  hand : ∀ h sw tw r, s.turn a = some { work := .copy h sw tw, steer := r } → t.turn a = s.turn a
  alone : ¬lane → NoSpareAndTurnsKept s t

/-- A flag that is set stays set through a condemnation handed to the Lane Steering Unit. -/
theorem condemnLaneEngine_keeps_flag {s : State} {n : Nat} (h : s.alert.flags.getLsbD n = true) (auto : Bool) (a : ArrayNo)
    (l : PhysLane) : (condemnLaneEngine auto a l s).1.alert.flags.getLsbD n = true := by
  rcases condemnLaneEngine_alert auto a l s with hl | hl
  · rw [hl, h]
  · rw [hl, getLsbD_or_noSpare, h, Bool.true_or]

/-- An occurrence that condemns its row leaves what the engine makes of the row, and then what a condemned lane leaves of
that (R63, R76). -/
theorem deliver_afterRow {s : State} {o : Occurrence} (hm : MapOk s.map) (hrow : CondemnsRow s o) :
    AfterLane o.array (∃ l, CondemnsLane s o l) (condemnRowEngine true o.array o.row s).1 (deliver o s) := by
  obtain ⟨u, v, w, husubs, -, huturns, huparams, huflag, hv, -, -, -, hlane, hnolane, hsubs⟩ :=
    deliver_engines (o := o) hm
  obtain ⟨hvsubs, hvturns, hvflag⟩ := hv hrow
  have hr := SameRepairs.condemnRowEngine ⟨husubs, huturns, huparams, huflag⟩ true o.array o.row
  have hturns := hvturns.trans hr.turns
  have hflag := hvflag.trans hr.noSpare
  have htables := hsubs.trans (hvsubs.trans hr.subs)
  by_cases hl : ∃ l, CondemnsLane s o l
  · obtain ⟨l, hl⟩ := hl
    obtain ⟨rfl, hdturns, hdflag, -⟩ := hlane l hl
    refine ⟨htables, fun hf => ?_, fun h sw tw r hturn => ?_, fun hno => absurd ⟨l, hl⟩ hno⟩
    · rw [hdflag]
      exact condemnLaneEngine_keeps_flag (hflag.trans hf) ..
    · have hvturn := turn_congr hturns o.array
      rw [turn_congr hdturns, condemnLaneEngine_copy (hvturn.trans hturn), hvturn]
  · obtain ⟨hdturns, hdflag, -⟩ := hnolane (not_exists.mp hl)
    have hkept : NoSpareAndTurnsKept (condemnRowEngine true o.array o.row s).1 (deliver o s) :=
      ⟨hdturns.trans hturns, hdflag.trans hflag⟩
    exact ⟨htables, fun hf => hkept.2.trans hf, fun _ _ _ _ _ => turn_congr hkept.1 _, fun _ => hkept⟩

section
variable {a : ArrayNo} {lane : Prop} {s t : State}

/-- A condemnation that the engine ignores changes no table (R78, R81, R82). -/
theorem AfterLane.ignored (h : AfterLane a lane s t) : t.subs = s.subs ∧ (¬lane → NoSpareAndTurnsKept s t) :=
  ⟨h.subs, h.alone⟩

theorem AfterLane.lacked (h : AfterLane a lane (raise .noSpare s) t) :
    t.subs = s.subs ∧ t.alert.flags.getLsbD 6 = true :=
  ⟨h.subs.trans (raise_subs ..), h.noSpare (raise_sets .noSpare s)⟩

/-- A copy begun takes its entry and its spare, and nothing else (R77, R79). -/
theorem AfterLane.begun {i : Fin 32} {e : Option SubEntry} {p : SpareNo}
    (h : AfterLane a lane (setEntry i e (setSpare a p .inUse s)) t) :
    (∀ j, t.subs.table.get j = if j = i then e else s.subs.table.get j) ∧
    (∀ b x, t.spare b x = if b = a ∧ x = p then .inUse else s.spare b x) ∧ (¬lane → NoSpareAndTurnsKept s t) := by
  refine ⟨fun j => ?_, fun b x => ?_, h.alone⟩
  · rw [h.subs, table_setEntry, table_setSpare]
  · rw [spare_congr h.subs, spare_setEntry, spare_setSpare]

section
variable {r : State} {i : Fin 32} {e : SubEntry} {src : CopySource} (h : AfterLane a lane r t)
include h

/-- The copy in hand of an entry whose target is replaced is void (R80, R83). -/
theorem AfterLane.hand_void {p : Option SpareNo} (hr : TargetReplaced a i e src p s r) {hand : CopyHand}
    {sw tw : PhysIndex} {x : SteerRecord} (hturn : s.turn a = some { work := .copy hand sw tw, steer := x })
    (hentry : hand.entry = i) :
    t.turn a = some { work := .copy { hand with void := true } sw tw, steer := x } := by
  have hvoid := (turn_congr hr.turns a).trans (targetRetired_hand hturn hentry e.target)
  exact (h.hand _ _ _ _ hvoid).trans hvoid

theorem AfterLane.restarted {p : SpareNo} (hr : TargetReplaced a i e src (some p) s r) :
    (∀ j, t.subs.table.get j =
      if j = i then some { e with phase := .copying src 0, target := p } else s.subs.table.get j) ∧
    (∀ b x, t.spare b x =
      if b = a ∧ x = p then .inUse else if b = a ∧ x = e.target then .retired else s.spare b x) ∧
    (¬lane → t.alert.flags.getLsbD 6 = s.alert.flags.getLsbD 6) := by
  refine ⟨fun j => ?_, fun b x => ?_, fun hno => ?_⟩
  · rw [h.subs, hr.table]
  · rw [spare_congr h.subs, hr.spare]
    simp only [Option.some.injEq, eq_comm (a := p)]
  · rw [(h.alone hno).2, hr.alert]
    rfl

theorem AfterLane.abandoned (hr : TargetReplaced a i e src none s r) :
    (∀ j, t.subs.table.get j = if j = i then e.givenUp src else s.subs.table.get j) ∧
    (∀ b x, t.spare b x = if b = a ∧ x = e.target then .retired else s.spare b x) ∧
    t.alert.flags.getLsbD 6 = true := by
  refine ⟨fun j => ?_, fun b x => ?_, h.noSpare ?_⟩
  · rw [h.subs, hr.table]
  · rw [spare_congr h.subs, hr.spare]
    simp only [reduceCtorEq, and_false, if_false]
  · rw [hr.alert]
    exact (getLsbD_or_noSpare ..).trans (Bool.or_true _)

end
end

end Sys2Proof.Machine
end

section
/-! The statement on the rows that occurrences condemn (R76 to R82). -/

namespace Sys2Proof.Machine

set_option Elab.async false

/-- With AUTO-SUB at 1 an automatic condemnation is acted on (R82). -/
theorem acts_of_autoSub {s : State} (h : s.params.autoSub = true) : (true && !s.params.autoSub) = false := by
  rw [h]
  rfl

/-- Settles O42: what the engine makes of the row by its table, and what a condemned lane leaves of that. -/
theorem rowCondemnationsByTheTable : Obligations.RowCondemnationsByTheTable := by
  rintro s o t lane hm hs hrow rfl hlane
  obtain rfl := propext hlane
  have hafter := deliver_afterRow hm hrow
  refine ⟨fun i e hi ha hr => ?served, fun hhost hfor => ?host, fun p hp => ?spare⟩
  case served =>
    have hhost : o.row < hostRows := hr ▸ (hs.1 i e hi).1
    have hfor : entryFor s o.array o.row ≠ none := fun h => entryFor_eq_none_iff.mp h i e hi ⟨ha, hr⟩
    rw [condemnRowEngine_host hhost, condemnHostRow_served hfor] at hafter
    exact hafter.ignored
  case host =>
    rw [condemnRowEngine_host hhost] at hafter
    refine ⟨fun hoff => ?_, fun hon => ?_⟩
    · rw [condemnHostRow_off hfor hoff] at hafter
      exact hafter.ignored
    · have hacts := acts_of_autoSub hon
      refine ⟨fun i p hi hfree => ?_, fun hnone => ?_⟩
      · rw [condemnHostRow_copies hfor hacts hi hfree] at hafter
        exact hafter.begun
      · rw [condemnHostRow_lacks hfor hacts hnone] at hafter
        exact hafter.lacked
  case spare =>
    rw [show o.row = spareRow p from hp, condemnRowEngine_spare] at hafter
    refine ⟨fun hno => ?_, fun i e hi ha ht => ?_⟩
    · rw [condemnSpare_ignored hno] at hafter
      exact hafter.ignored
    subst ht
    rw [← ha] at hafter ⊢
    refine ⟨fun hact => ⟨fun hoff => ?_, fun hon => ?_⟩, fun src c hcopy => ?_⟩
    · rw [condemnSpare_active hs hi hact, retarget_off hoff] at hafter
      exact hafter.ignored
    · have hacts := acts_of_autoSub hon
      rw [condemnSpare_active hs hi hact] at hafter
      refine ⟨fun p' hfree => ?_, fun hnone => ?_⟩
      · rw [retarget_copies hacts hfree] at hafter
        exact hafter.begun
      · rw [retarget_lacks hacts hnone] at hafter
        exact hafter.lacked
    · rw [condemnSpare_copying hs hi hcopy] at hafter
      have hused : s.spare e.array e.target = .inUse := spare_target hs hi
      have hr := replaceTarget_replaces (i := i) (hused.trans_ne nofun) src
      refine ⟨fun _ _ _ _ => hafter.hand_void hr, fun p' hfree => ?_, fun hnone => ?_⟩
      · rw [hfree] at hr
        exact hafter.restarted hr
      · rw [hnone] at hr
        exact hafter.abandoned hr

end Sys2Proof.Machine
end

section
/-! SUPPORT. What leaves the repair tables alone (chapters 7 to 12): the Substitution Table, the spares and the steering
records stay as they are through every shared operation, grant and command that is no repair's. -/

namespace Sys2Proof.Machine

set_option Elab.async false

/-! ## The relation -/

/-- Two states with the same Substitution Table, spares and steering records. -/
structure SameTables (s t : State) : Prop where
  subs : t.subs = s.subs := by rfl
  steer : t.steer = s.steer := by rfl

theorem SameTables.refl (s : State) : SameTables s s := {}

theorem SameTables.trans {s t u : State} (h : SameTables s t) (g : SameTables t u) : SameTables s u where
  subs := g.subs.trans h.subs
  steer := g.steer.trans h.steer

theorem SameTables.reply {s t : State} (h : SameTables s t) (q : Byte) (st : LinkStatus) (b : List Byte) :
    SameTables s (reply q st b t) := h.trans {}

theorem SameData.tables {s t : State} (h : SameData s t) : SameTables s t := ⟨h.subs, h.steer⟩

/-! ## Requests (R144 to R146) -/

theorem weighOpen_tables (r : Request) {s : State} (hp : s.path.path = .opened) : SameTables s (weighOpen r s) := by
  rw [weighOpen_frame r hp]
  exact {}

theorem weigh_tables (r : Request) (s : State) : SameTables s (weigh r s) := by
  unfold weigh
  split
  · exact {}
  · split
    case h_1 => exact {}
    case h_6 hp => exact weighOpen_tables r hp
    case h_7 => exact (abandonQuiet_sameData s).tables.trans (weighOpen_tables r (abandonQuiet_path s))
    case h_8 => exact {}
    case h_9 => exact {}
    all_goals exact (answerClosed_sameData r s).tables

theorem weighWaiting_tables (s : State) : SameTables s (weighWaiting s) := by
  unfold weighWaiting
  split
  · exact {}
  · exact SameTables.trans (t := discardWaiting s) {} (weigh_tables ..)

theorem changePath_tables (p : PathState) (s : State) : SameTables s (changePath p s) :=
  SameTables.trans (t := moveTo p s) {} (weighWaiting_tables _)

theorem enterDraining_tables (s : State) : SameTables s (enterDraining s) :=
  SameTables.trans (t := moveTo .draining s) {}
    (((withdrawPeek_sameData _).trans (raise_sameData ..)).tables.trans (weighWaiting_tables _))

theorem present_tables (r : Request) (s : State) : SameTables s (present r s) := by
  unfold present
  split
  · exact {}
  · exact weigh_tables r s

/-! ## The lines and the timed ends (R154 to R168) -/

theorem execHoldEnd_tables {s t : State} (h : execHoldEnd s = .next t) : SameTables s t := by
  cases Host.Outcome.next.inj h
  split
  · split
    · exact SameTables.trans (t := moveTo .setup s) {} (enterDraining_tables _)
    · exact changePath_tables ..
  · exact {}

theorem busResetPath_tables (s : State) : SameTables s (busResetPath s) := by
  unfold busResetPath
  split
  · exact (abandonQuiet_sameData s).tables
  all_goals exact {}

theorem execBusResetAsserted_tables {s t : State} (h : execBusResetAsserted s = .next t) : SameTables s t := by
  cases Host.Outcome.next.inj h
  split
  · exact {}
  · split
    · exact {}
    · exact SameTables.trans (t := busResetCleared s) {} (busResetPath_tables _)

theorem execSupplyWarningAsserted_tables {s t : State} (h : execSupplyWarningAsserted s = .next t) :
    SameTables s t := by
  have hwarned : SameTables s { s with supplyWarning := true } := {}
  cases Host.Outcome.next.inj h
  split
  · exact {}
  · dsimp only
    split
    case h_6 => exact (hwarned.trans (abandonQuiet_sameData _).tables).trans (enterDraining_tables _)
    case h_7 => exact {}
    case h_8 => exact {}
    case h_9 => exact {}
    all_goals exact hwarned.trans (enterDraining_tables _)

theorem execSupplyWarningReleased_tables {s t : State} (h : execSupplyWarningReleased s = .next t) :
    SameTables s t := by
  cases Host.Outcome.next.inj h
  split
  · dsimp only
    split
    · exact SameTables.trans (t := { s with supplyWarning := false }) {} (changePath_tables ..)
    all_goals exact {}
  · exact {}

theorem execRetentionExitEnd_tables {s t : State} (h : execRetentionExitEnd s = .next t) : SameTables s t := by
  cases Host.Outcome.next.inj h
  split
  · exact SameTables.trans (t := { s with path := { s.path with retentionExit := false } }) {} (changePath_tables ..)
  · exact {}

theorem execWakeEnd_tables {s t : State} (h : execWakeEnd s = .next t) : SameTables s t := by
  cases Host.Outcome.next.inj h
  split
  · exact changePath_tables ..
  · exact {}

theorem execQuietEntryComplete_tables {s t : State} (h : execQuietEntryComplete s = .next t) : SameTables s t := by
  have hentered : SameTables s (quietEntered s) :=
    SameTables.trans (t := setQuietOutcome .entered (moveTo .quiet s)) {} (answerQuiesce_sameData ..).tables
  cases Host.Outcome.next.inj h
  split
  · dsimp only
    split
    · exact hentered.trans (u := beginWake (quietEntered s)) {}
    · exact hentered
  · exact {}

theorem execDrainToFrozen_tables {s t : State} (h : execDrainToFrozen s = .next t) : SameTables s t := by
  cases Host.Outcome.next.inj h
  split <;> exact {}

theorem execScrubIntervalExpiry_tables {s t : State} (h : execScrubIntervalExpiry s = .next t) : SameTables s t := by
  cases Host.Outcome.next.inj h
  split <;> exact {}

/-! ## Grants (R32, R34) -/

/-- A grant reads the repair tables to name its words; a copy or a migration moves on only at its completion. -/
theorem grant_tables {a : ArrayNo} {k : TurnKind} {s t : State} (h : grant a k s = some t) : SameTables s t := by
  cases k with
  | hostRead =>
    change grantHostRead a s = some t at h
    unfold grantHostRead at h
    split at h
    · cases h; exact {}
    · split at h <;> cases h
      exact {}
  | drain =>
    change grantDrain a s = some t at h
    unfold grantDrain at h
    split at h
    · cases h; exact {}
    · dsimp only at h
      split at h <;> cases h
      exact {}
  | peek =>
    change grantPeek a s = some t at h
    unfold grantPeek at h
    split at h <;> cases h <;> exact {}
  | copy =>
    change grantCopy a s = some t at h
    unfold grantCopy at h
    split at h
    · cases h; exact {}
    · split at h
      · cases h; exact {}
      · split at h <;> cases h
        exact {}
  | migrate =>
    change grantMigrate a s = some t at h
    unfold grantMigrate at h
    split at h
    · cases h; exact {}
    · cases h; exact {}
    · split at h <;> cases h
      exact {}
  | fill =>
    change grantFill a s = some t at h
    unfold grantFill at h
    split at h <;> cases h <;> exact {}
  | scrub =>
    change grantScrub a s = some t at h
    unfold grantScrub at h
    split at h <;> cases h
    exact {}

theorem execTurnGrant_tables {a : ArrayNo} {s t : State} (h : execTurnGrant a s = .next t) : SameTables s t := by
  rcases execTurnGrant_cases a s with ⟨-, ht⟩ | ⟨k, u, -, hu, ht⟩ | ⟨k, -, -, ht⟩
  · cases ht.symm.trans h
    exact {}
  · cases ht.symm.trans h
    exact grant_tables hu
  · cases ht.symm.trans h

/-! ## The parts of a completion (R35 to R42) -/

theorem disturb_tables (a : ArrayNo) (i : PhysIndex) (flips : Stored) (s : State) :
    SameTables s (disturb a i flips s) := by
  rw [disturb_eq_withMem]
  exact {}

theorem setWords_tables (a : ArrayNo) (w : Stored) (is : List PhysIndex) (s : State) :
    SameTables s (setWords a w is s) := by
  rw [setWords_eq_withMem]
  exact {}

theorem repairWrite_tables (a : ArrayNo) (i : PhysIndex) (r : SteerRecord) (d : Decoded) (s : State) :
    SameTables s (repairWrite a i r d s) := by
  rw [repairWrite_eq_withMem]
  exact {}

theorem hostReadResult_tables (place : Nat) (d : Decoded) (s : State) : SameTables s (hostReadResult place d s) := by
  rw [hostReadResult_frame]
  exact {}

theorem scrubResult_tables (leftSet : Bool) (s : State) : SameTables s (scrubResult leftSet s) := by
  unfold scrubResult
  split
  · exact {}
  · rw [advanceCursor_frame]
    exact {}

/-! ## The commands of the link that are no repair's (R44, R69 to R71, R91, R92, R109, R161 to R169, R190 to R192) -/

theorem setParam_tables (id v : Nat) (s : State) : SameTables s (setParam id v s) := by
  unfold setParam
  split <;> exact {}

theorem restartPath_tables (s : State) : SameTables s (restartPath s) := by
  unfold restartPath
  split
  case h_1 => exact changePath_tables ..
  case h_2 => exact changePath_tables ..
  case h_3 => exact changePath_tables ..
  all_goals exact {}

section
variable (q : Byte) (args : List Byte) (s : State)

theorem doGetParam_tables : SameTables s (doGetParam q args s) := by
  unfold doGetParam
  split <;> exact {}

theorem doSetArrays_tables (v : Nat) : SameTables s (doSetArrays q v s) := by
  unfold doSetArrays
  split
  · split
    · rw [setArrays_frame]
      exact {}
    · exact {}
  · exact {}

theorem doSetParam_tables : SameTables s (doSetParam q args s) := by
  unfold doSetParam
  split
  · exact doSetArrays_tables ..
  · split
    · exact (setParam_tables ..).reply ..
    · exact {}

theorem doOpen_tables : SameTables s (doOpen q args s) := by
  unfold doOpen
  split
  · exact (changePath_tables ..).reply ..
  all_goals exact {}

theorem doClose_tables : SameTables s (doClose q args s) := by
  unfold doClose
  split
  · exact (changePath_tables ..).reply ..
  all_goals exact {}

theorem doFill_tables : SameTables s (doFill q args s) := by
  unfold doFill
  split
  · exact ((changePath_tables .filling s).trans {}).reply ..
  all_goals exact {}

theorem doQuiesce_tables : SameTables s (doQuiesce q args s) := by
  unfold doQuiesce
  split
  · split
    · exact {}
    · exact SameTables.trans
        (t := { s with link := { s.link with lock := some { seq := q, command := .quiesce } } }) {}
        (changePath_tables ..)
  all_goals exact {}

theorem doWake_tables : SameTables s (doWake q args s) := by
  unfold doWake
  split <;> exact {}

theorem doRestart_tables : SameTables s (doRestart q args s) :=
  SameTables.trans {} (restartPath_tables _)

theorem doPeek_tables : SameTables s (doPeek q args s) := by
  unfold doPeek
  split
  iterate 3
    · split <;> exact {}
  all_goals exact {}

theorem doMapRead_tables : SameTables s (doMapRead q args s) := by
  unfold doMapRead
  split
  · exact {}
  · split <;> exact {}

theorem doMapDelete_tables : SameTables s (doMapDelete q args s) := by
  unfold doMapDelete
  split
  · exact {}
  · split <;> exact {}

theorem doSubRead_tables : SameTables s (doSubRead q args s) := by
  unfold doSubRead
  split
  · exact {}
  · split <;> exact {}

theorem doSpareRead_tables : SameTables s (doSpareRead q args s) := by
  unfold doSpareRead
  split <;> exact {}

theorem doLaneRead_tables : SameTables s (doLaneRead q args s) := by
  unfold doLaneRead
  split <;> exact {}

end

end Sys2Proof.Machine
end

section
/-! SUPPORT. What the repairs never take back (R74, R94): through condemnations, copies, migrations and the commands of
the repair blocks a STEERED record stays as it is, and a RETIRED spare stays RETIRED. -/

namespace Sys2Proof.Machine

set_option Elab.async false

/-! ## The relation -/

/-- A change of state that leaves every STEERED record as it is, keeps the Substitution Table's invariant, and under it
leaves every RETIRED spare RETIRED. -/
structure KeepsFinal (s t : State) : Prop where
  steered : ∀ a k o, s.steerOf a = .steered k o → t.steerOf a = .steered k o
  subs : SubsOk s → SubsOk t
  retired : SubsOk s → ∀ a p, s.spare a p = .retired → t.spare a p = .retired

theorem KeepsFinal.trans {s t u : State} (h : KeepsFinal s t) (g : KeepsFinal t u) : KeepsFinal s u where
  steered a k o hs := g.steered a k o (h.steered a k o hs)
  subs hs := g.subs (h.subs hs)
  retired hs a p hp := g.retired (h.subs hs) a p (h.retired hs a p hp)

theorem steerOf_congr {s t : State} (h : t.steer = s.steer) (a : ArrayNo) : t.steerOf a = s.steerOf a := by
  rw [State.steerOf, h, State.steerOf]

/-- A repair of rows: the steering records stay, so the spares alone are to be looked at. -/
theorem KeepsFinal.of_rows {s t : State} (hsteer : t.steer = s.steer) (hsubs : SubsOk s → SubsOk t)
    (hretired : SubsOk s → ∀ a p, s.spare a p = .retired → t.spare a p = .retired) : KeepsFinal s t :=
  ⟨fun a _ _ hs => (steerOf_congr hsteer a).trans hs, hsubs, hretired⟩

/-- A repair of lanes: the Substitution Table and the spares stay, so the records alone are to be looked at. -/
theorem KeepsFinal.of_lanes {s t : State} (hsubs : t.subs = s.subs)
    (hsteered : ∀ a k o, s.steerOf a = .steered k o → t.steerOf a = .steered k o) : KeepsFinal s t :=
  ⟨hsteered, subsOk_congr hsubs, fun _ _ p hp => (spare_congr hsubs p).trans hp⟩

theorem SameTables.keepsFinal {s t : State} (h : SameTables s t) : KeepsFinal s t :=
  .of_lanes h.subs fun a _ _ hs => (steerOf_congr h.steer a).trans hs

theorem KeepsFinal.refl (s : State) : KeepsFinal s s := SameTables.keepsFinal {}

theorem KeepsFinal.reply {s t : State} (h : KeepsFinal s t) (q : Byte) (st : LinkStatus) (b : List Byte) :
    KeepsFinal s (reply q st b t) := h.trans (SameTables.keepsFinal {})

theorem raise_keepsFinal (f : AlertFlag) (s : State) : KeepsFinal s (raise f s) :=
  (raise_sameData f s).tables.keepsFinal

/-! ## Rows (R77 to R80, R84, R85, R88 to R90) -/

/-- A spare that is FREE or IN-USE can change without a RETIRED one changing. -/
theorem setSpare_keeps_retired {s : State} {a b : ArrayNo} {t p : SpareNo} {x : SpareStatus}
    (ht : s.spare a t ≠ .retired) (hp : s.spare b p = .retired) : (setSpare a t x s).spare b p = .retired := by
  rw [spare_setSpare, if_neg]
  · exact hp
  · rintro ⟨rfl, rfl⟩
    exact ht hp

theorem retire_keeps_retired {s : State} {b : ArrayNo} {p : SpareNo} (hp : s.spare b p = .retired) (a : ArrayNo)
    (t : SpareNo) : (setSpare a t .retired s).spare b p = .retired := by
  rw [spare_setSpare, hp, ite_self]

theorem raise_keeps_retired {s : State} {b : ArrayNo} {p : SpareNo} (hp : s.spare b p = .retired) (f : AlertFlag) :
    (raise f s).spare b p = .retired := (spare_congr (raise_subs f s) p).trans hp

/-- A spare taken into use was FREE (R74). -/
theorem takeFreeSpare_keeps_retired {s : State} {a b : ArrayNo} {t p : SpareNo} (ht : freeSpare s a = some t)
    (hp : s.spare b p = .retired) : (setSpare a t .inUse s).spare b p = .retired :=
  setSpare_keeps_retired ((freeSpare_some ht).trans_ne nofun) hp

section
variable {s : State} {b : ArrayNo} {p : SpareNo} (hp : s.spare b p = .retired)
include hp

theorem condemnHostRow_keeps_retired (auto : Bool) (a : ArrayNo) (row : Nat) :
    (condemnHostRow auto a row s).1.spare b p = .retired := by
  unfold condemnHostRow
  split
  · exact hp
  · split
    · exact hp
    · split
      next ht => exact takeFreeSpare_keeps_retired ht hp
      · exact raise_keeps_retired hp _

theorem retarget_keeps_retired (auto : Bool) (a : ArrayNo) (i : Fin 32) (e : SubEntry) :
    (retarget auto a i e s).1.spare b p = .retired := by
  unfold retarget
  split
  · exact hp
  · split
    next ht => exact takeFreeSpare_keeps_retired ht hp
    · exact raise_keeps_retired hp _

theorem replaceTarget_keeps_retired (a : ArrayNo) (i : Fin 32) (e : SubEntry) (src : CopySource) :
    (replaceTarget a i e src s).1.spare b p = .retired := by
  have hvoid : (voidCopy a i (setSpare a e.target .retired s)).spare b p = .retired := by
    rw [spare_voidCopy, retire_keeps_retired hp]
  unfold replaceTarget
  dsimp only
  split
  next ht => exact takeFreeSpare_keeps_retired ht hvoid
  · exact raise_keeps_retired (s := setEntry ..) hvoid _

theorem condemnRowEngine_keeps_retired (auto : Bool) (a : ArrayNo) (row : Nat) :
    (condemnRowEngine auto a row s).1.spare b p = .retired := by
  unfold condemnRowEngine
  split
  · exact condemnHostRow_keeps_retired hp ..
  · split
    · unfold condemnSpare
      split
      · exact hp
      · split
        · exact retarget_keeps_retired hp ..
        · exact replaceTarget_keeps_retired hp ..
    · exact hp

end

theorem condemnRowEngine_keepsFinal (auto : Bool) (a : ArrayNo) (row : Nat) (s : State) :
    KeepsFinal s (condemnRowEngine auto a row s).1 :=
  .of_rows (condemnRowEngine_steer ..) (fun hs => condemnRowEngine_subsOk hs ..)
    fun _ _ _ hp => condemnRowEngine_keeps_retired hp ..

theorem copyResult_keepsFinal (h : CopyHand) (s : State) : KeepsFinal s (copyResult h s) := by
  have hsubs := (copyResult_keeps h s).subs
  rcases copyResult_cases h s with hr | ⟨e, hr⟩ | ⟨e, src, hr⟩ <;> rw [hr] at hsubs ⊢
  · exact .refl s
  · exact .of_rows rfl hsubs fun _ _ _ hp => hp
  · refine .of_rows ?_ hsubs fun _ a p hp => ?_
    · rw [completeCopy, raise_steer]
      cases src <;> rfl
    · rw [completeCopy_spare, hp, ite_self]

/-- The target of a copy that is cancelled was in use, so it was not RETIRED (R74, R88). -/
theorem cancelCopy_keepsFinal {s : State} {i : Fin 32} {e : SubEntry} (hi : s.subs.table.get i = some e)
    {src : CopySource} {c : Nat} (hphase : e.phase = .copying src c) : KeepsFinal s (cancelCopy i e src s) := by
  refine .of_rows ?_ (cancelCopy_keeps hi hphase).subs fun hs a p hp => ?_
  · exact (mapTurn_sameData e.array (TurnWork.voidCopy i) s).steer
  · refine setSpare_keeps_retired ?_ ((spare_voidCopy ..).trans hp)
    rw [spare_voidCopy, spare_target hs hi]
    nofun

theorem retireFree_keepsFinal {s : State} {a : ArrayNo} {t : SpareNo} (h : s.spare a t = .free) :
    KeepsFinal s (setSpare a t .retired s) :=
  .of_rows rfl (fun hs => retireFree_subsOk hs h) fun _ _ _ hp => retire_keeps_retired hp a t

/-! ## Lanes (R96 to R103, R106 to R108) -/

/-- A record that is not STEERED can change without a STEERED one changing. -/
theorem setSteer_keepsFinal {s : State} {a : ArrayNo} (h : ∀ k o, s.steerOf a ≠ .steered k o) (r : SteerRecord) :
    KeepsFinal s (setSteer a r s) := by
  refine .of_lanes rfl fun b k o hb => ?_
  rw [steerOf_setSteer, if_neg]
  · exact hb
  · rintro rfl
    exact h k o hb

theorem cancelMigration_keepsFinal {s : State} {a : ArrayNo} (h : ∀ k o, s.steerOf a ≠ .steered k o) :
    KeepsFinal s (cancelMigration a s) :=
  (setSteer_keepsFinal h .normal).trans (mapTurn_sameData ..).tables.keepsFinal

theorem condemnCodedLane_keepsFinal (auto : Bool) (a : ArrayNo) (k : CodedLane) (s : State) :
    KeepsFinal s (condemnCodedLane auto a k s).1 := by
  unfold condemnCodedLane
  split
  next hnone =>
    split
    · exact .refl s
    · exact setSteer_keepsFinal (fun j o hj => by rw [hj] at hnone; cases hnone) _
  · split
    · exact .refl s
    · split
      · exact .refl s
      · exact raise_keepsFinal ..

theorem condemnLaneEngine_keepsFinal (auto : Bool) (a : ArrayNo) (l : PhysLane) (s : State) :
    KeepsFinal s (condemnLaneEngine auto a l s).1 := by
  unfold condemnLaneEngine
  split
  · exact condemnCodedLane_keepsFinal ..
  · unfold condemnSpareLane
    split
    · exact .refl s
    next hm => exact (cancelMigration_keepsFinal fun _ _ h => by cases hm.symm.trans h).trans (raise_keepsFinal ..)
    · exact raise_keepsFinal ..

theorem migrateResult_keepsFinal (a : ArrayNo) (i : PhysIndex) (void : Bool) (s : State) :
    KeepsFinal s (migrateResult a i void s) := by
  unfold migrateResult
  split
  · exact .refl s
  · split
    · exact .refl s
    · exact .refl s
    next hm =>
      have hset (r : SteerRecord) : KeepsFinal s (setSteer a r s) :=
        setSteer_keepsFinal (fun _ _ h => by cases hm.symm.trans h) r
      split
      · exact (hset _).trans ((SameTables.keepsFinal {}).trans (raise_keepsFinal ..))
      · exact hset _

/-! ## Occurrences (R52 to R63) -/

theorem keepsFinal_allows (o : Occurrence) : AllowsOccurrence o KeepsFinal where
  refl := .refl
  trans := .trans
  raise := raise_keepsFinal
  withMap _ _ := SameTables.keepsFinal {}
  row := condemnRowEngine_keepsFinal true o.array o.row
  lane l s _ := condemnLaneEngine_keepsFinal true o.array l s

theorem report_keepsFinal (a : ArrayNo) (i : PhysIndex) (g : Origin) (d : Decoded) (s : State) :
    KeepsFinal s (report a i g d s) :=
  report_within (.refl s) fun _ _ => keepsFinal_allows _

/-! ## The completions of turns (R35 to R45) -/

section
variable {a : ArrayNo} {flips : Stored} {s t : State}

theorem endTurn_keepsFinal (a : ArrayNo) (s : State) : KeepsFinal s (endTurn a s) := SameTables.keepsFinal {}

theorem drainResult_keepsFinal (w : BitVec 28) (s : State) : KeepsFinal s (drainResult w s) := SameTables.keepsFinal {}

theorem execHostReadComplete_keepsFinal (h : execHostReadComplete a flips s = .next t) : KeepsFinal s t := by
  cases Host.Outcome.next.inj h
  split
  next place i repair r _ =>
    unfold completeHostRead
    dsimp only
    refine ((KeepsFinal.trans (disturb_tables a i flips s).keepsFinal ?_).trans (report_keepsFinal ..)).trans
      ((endTurn_keepsFinal ..).trans (hostReadResult_tables ..).keepsFinal)
    split
    · exact (repairWrite_tables ..).keepsFinal
    · exact .refl _
  · exact .refl s

theorem execDrainComplete_keepsFinal (h : execDrainComplete a flips s = .next t) : KeepsFinal s t := by
  cases Host.Outcome.next.inj h
  split
  · refine KeepsFinal.trans ?_ ((endTurn_keepsFinal ..).trans (drainResult_keepsFinal ..))
    split
    · exact (setWords_tables ..).keepsFinal
    · exact ((disturb_tables ..).trans (setWords_tables ..)).keepsFinal.trans (report_keepsFinal ..)
  · exact .refl s

theorem execPeekTurnComplete_keepsFinal (h : execPeekTurnComplete a flips s = .next t) : KeepsFinal s t := by
  cases Host.Outcome.next.inj h
  split
  · exact (disturb_tables ..).keepsFinal.trans
      ((endTurn_keepsFinal ..).trans (answerPeek_sameData ..).tables.keepsFinal)
  · exact .refl s

/-- A word read, another written over it or elsewhere, and what was read reported (R39, R40). -/
theorem rewriteTurn_keepsFinal (i j : PhysIndex) (w : Stored) (g : Origin) (d : Decoded) :
    KeepsFinal s (report a i g d ((disturb a i flips s).setWord a j w)) :=
  ((disturb_tables ..).trans {}).keepsFinal.trans (report_keepsFinal ..)

theorem execCopyTurnComplete_keepsFinal (h : execCopyTurnComplete a flips s = .next t) : KeepsFinal s t := by
  cases Host.Outcome.next.inj h
  split
  · dsimp only
    split
    · exact (rewriteTurn_keepsFinal ..).trans ((endTurn_keepsFinal ..).trans (copyResult_keepsFinal ..))
    · exact (rewriteTurn_keepsFinal ..).trans (endTurn_keepsFinal ..)
  · exact .refl s

theorem execMigrateTurnComplete_keepsFinal (h : execMigrateTurnComplete a flips s = .next t) : KeepsFinal s t := by
  cases Host.Outcome.next.inj h
  split
  · exact (rewriteTurn_keepsFinal ..).trans ((endTurn_keepsFinal ..).trans (migrateResult_keepsFinal ..))
  · exact .refl s

theorem execFillTurnComplete_keepsFinal (h : execFillTurnComplete a s = .next t) : KeepsFinal s t := by
  cases Host.Outcome.next.inj h
  split
  · exact KeepsFinal.trans (SameTables.keepsFinal {}) (fillResult_sameData ..).tables.keepsFinal
  · exact .refl s

theorem execScrubTurnComplete_keepsFinal (h : execScrubTurnComplete a flips s = .next t) : KeepsFinal s t := by
  cases Host.Outcome.next.inj h
  split
  · exact (((disturb_tables ..).trans (repairWrite_tables ..)).keepsFinal.trans (report_keepsFinal ..)).trans
      ((endTurn_keepsFinal ..).trans (scrubResult_tables ..).keepsFinal)
  · exact .refl s

end

/-! ## The commands of the repair blocks (R87 to R90, R106 to R108) -/

section
variable (q : Byte) (args : List Byte) (s : State)

theorem reply_keepsFinal (st : LinkStatus) (b : List Byte) : KeepsFinal s (reply q st b s) := SameTables.keepsFinal {}

theorem doCondemnRow_keepsFinal : KeepsFinal s (doCondemnRow q args s) := by
  unfold doCondemnRow
  split
  iterate 2
    · split
      · split
        · exact (condemnRowEngine_keepsFinal ..).reply ..
        · exact reply_keepsFinal ..
      · exact reply_keepsFinal ..
  all_goals exact reply_keepsFinal ..

theorem doSubCancel_keepsFinal : KeepsFinal s (doSubCancel q args s) := by
  unfold doSubCancel
  split
  · exact reply_keepsFinal ..
  · split
    · exact reply_keepsFinal ..
    next hi =>
      split
      · exact reply_keepsFinal ..
      next hphase => exact (cancelCopy_keepsFinal hi hphase).reply ..

theorem doSubLoad_keepsFinal : KeepsFinal s (doSubLoad q args s) := by
  unfold doSubLoad
  split
  · split
    · exact reply_keepsFinal ..
    next hargs =>
      obtain ⟨hrow, hfree, hfor⟩ := loadArgs_some hargs
      split
      · exact reply_keepsFinal ..
      next hentry =>
        refine KeepsFinal.reply ?_ ..
        refine .of_rows rfl (fun hs => ?_) fun _ _ _ hp => ?_
        · exact newEntry_subsOk hs (freeEntry_some hentry) hfree hrow hfor (.inl rfl)
        · exact setSpare_keeps_retired (hfree.trans_ne nofun) hp
  all_goals exact reply_keepsFinal ..

theorem doSpareRetire_keepsFinal : KeepsFinal s (doSpareRetire q args s) := by
  unfold doSpareRetire
  split
  · split
    · exact reply_keepsFinal ..
    next hfree => exact (retireFree_keepsFinal hfree).reply ..
    · exact reply_keepsFinal ..
  · exact reply_keepsFinal ..

theorem doCondemnLane_keepsFinal : KeepsFinal s (doCondemnLane q args s) := by
  unfold doCondemnLane
  split
  iterate 2
    · split
      · exact (condemnCodedLane_keepsFinal ..).reply ..
      · exact reply_keepsFinal ..
  all_goals exact reply_keepsFinal ..

theorem doLaneCancel_keepsFinal : KeepsFinal s (doLaneCancel q args s) := by
  unfold doLaneCancel
  split
  · exact reply_keepsFinal ..
  · split
    · exact reply_keepsFinal ..
    · exact reply_keepsFinal ..
    next hm => exact (cancelMigration_keepsFinal fun _ _ h => by cases hm.symm.trans h).reply ..

theorem doLaneLoad_keepsFinal : KeepsFinal s (doLaneLoad q args s) := by
  unfold doLaneLoad
  split
  · split
    · split
      next hn => exact (setSteer_keepsFinal (fun _ _ h => by cases hn.symm.trans h) _).reply ..
      · exact reply_keepsFinal ..
    · exact reply_keepsFinal ..
  all_goals exact reply_keepsFinal ..

theorem commandEffect_keepsFinal (c : LinkCommand) : KeepsFinal s (commandEffect c q args s) := by
  cases c with
  | status => exact reply_keepsFinal ..
  | getParam => exact (doGetParam_tables ..).keepsFinal
  | setParam => exact (doSetParam_tables ..).keepsFinal
  | openPort => exact (doOpen_tables q args s).keepsFinal
  | closePort => exact (doClose_tables q args s).keepsFinal
  | fill => exact (doFill_tables q args s).keepsFinal
  | quiesce => exact (doQuiesce_tables q args s).keepsFinal
  | wake => exact (doWake_tables q args s).keepsFinal
  | restart => exact (doRestart_tables q args s).keepsFinal
  | readCauses => exact reply_keepsFinal ..
  | clearCauses => exact SameTables.keepsFinal {}
  | clearFlags => exact ((changeAlert_sameData ..).tables.reply ..).keepsFinal
  | setEnables => exact ((changeAlert_sameData ..).tables.reply ..).keepsFinal
  | peek => exact (doPeek_tables ..).keepsFinal
  | mapRead => exact (doMapRead_tables ..).keepsFinal
  | mapDelete => exact (doMapDelete_tables ..).keepsFinal
  | mapPurge => exact SameTables.keepsFinal {}
  | condemnRow => exact doCondemnRow_keepsFinal ..
  | subCancel => exact doSubCancel_keepsFinal ..
  | subLoad => exact doSubLoad_keepsFinal ..
  | spareRetire => exact doSpareRetire_keepsFinal ..
  | subRead => exact (doSubRead_tables ..).keepsFinal
  | spareRead => exact (doSpareRead_tables ..).keepsFinal
  | condemnLane => exact doCondemnLane_keepsFinal ..
  | laneCancel => exact doLaneCancel_keepsFinal ..
  | laneLoad => exact doLaneLoad_keepsFinal ..
  | laneRead => exact (doLaneRead_tables ..).keepsFinal
  | scrubRead => exact reply_keepsFinal ..

end

end Sys2Proof.Machine
end

section
/-! SUPPORT. What stays within a relation through all that arrives on the command line, when the link's own operations and
the commands do (R179 to R189). -/

namespace Sys2Proof.Machine

set_option Elab.async false

/-- A relation between states that the link's own operations and every command's effect stay within (R179 to R187). -/
structure AllowsLink (R : State → State → Prop) : Prop where
  refl : ∀ s, R s s
  trans : ∀ {s t u}, R s t → R t u → R s u
  receiver : ∀ r s, R s (setReceiver r s)
  respond : ∀ r s, R s (respond r s)
  reply : ∀ q st b s, R s (reply q st b s)
  raiseLink : ∀ s, R s (raise .link s)
  effect : ∀ c q args s, R s (commandEffect c q args s)

section
variable {R : State → State → Prop} (h : AllowsLink R)
include h

/-! ## A frame dealt with (R183, R185, R186, R189) -/

theorem AllowsLink.executeCommand (c : LinkCommand) (q : Byte) (args : List Byte) (s : State) :
    R s (executeCommand c (commandEffect c) q args s) := by
  unfold Machine.executeCommand
  split
  · exact h.reply ..
  · exact h.effect ..

theorem AllowsLink.dealGood {execute : State → State} {s : State} (hexec : R s (execute s)) (q : Byte) :
    R s (dealGood q execute s) := by
  unfold Machine.dealGood
  split
  · exact h.respond ..
  · split
    · split
      · exact h.respond ..
      · exact hexec
    · exact hexec

theorem AllowsLink.rejectFrame (q : Byte) (s : State) : R s (rejectFrame q s) := h.trans (h.respond ..) (h.raiseLink _)

theorem AllowsLink.frameArrives {next : State → State} (hnext : ∀ u, R u (next u)) (q code : Byte) (args : List Byte)
    (s : State) : R s (frameArrives q code args next s) := by
  rcases frameArrives_cases q args s code next with heq | heq <;> rw [heq]
  · exact h.refl s
  · exact h.trans (h.receiver ..) (hnext _)

/-! ## Bytes (R179, R182) -/

theorem AllowsLink.completeFrame (gathered : List Byte) (check : Byte) (s : State) :
    R s (completeFrame gathered check s) := by
  unfold Machine.completeFrame
  split
  next q code args =>
    split
    · refine h.dealGood ?_ q
      cases LinkCommand.ofCode code with
      | some c => exact h.executeCommand ..
      | none => exact h.reply ..
    · exact h.rejectFrame ..
  · exact h.refl s

theorem AllowsLink.frameByte (g : List Byte) (b : Byte) (s : State) : R s (frameByte g b s) := by
  unfold Machine.frameByte
  split
  · split
    · exact h.receiver ..
    · exact h.receiver ..
  · split
    · exact h.receiver ..
    · exact h.trans (h.receiver ..) (h.completeFrame ..)

theorem AllowsLink.takeByte (b : Byte) (s : State) : R s (takeByte b s) := by
  unfold Machine.takeByte
  split
  · exact h.refl s
  · split
    · split
      · exact h.receiver ..
      · exact h.refl s
    · exact h.frameByte ..
    · exact h.refl s

/-! ## The rows of the command line -/

theorem AllowsLink.row {c : LinkCommand} {q : Byte} {args : List Byte} {s t : State}
    (ht : commandRow c (commandEffect c) q args s = .next t) : R s t := by
  cases Host.Outcome.next.inj ht
  exact h.frameArrives (fun u => h.dealGood (h.executeCommand c q args u) q) ..

theorem AllowsLink.unknown {q code : Byte} {args : List Byte} {s t : State} (ht : execUnknown q code args s = .next t) :
    R s t := by
  cases Host.Outcome.next.inj ht
  split
  · exact h.refl s
  · exact h.frameArrives (fun u => h.dealGood (h.reply ..) q) ..

theorem AllowsLink.linkReject {q code : Byte} {args : List Byte} {check : Byte} {s t : State}
    (ht : execLinkReject q code args check s = .next t) : R s t := by
  cases Host.Outcome.next.inj ht
  split
  · exact h.refl s
  · exact h.frameArrives (h.rejectFrame q) ..

theorem AllowsLink.linkGapTimeout {s t : State} (ht : execLinkGapTimeout s = .next t) : R s t := by
  cases Host.Outcome.next.inj ht
  split
  · split
    · exact h.refl s
    · exact h.trans (h.receiver ..) (h.raiseLink _)
  all_goals exact h.refl s

theorem AllowsLink.discardingTimeout {s t : State} (ht : execDiscardingTimeout s = .next t) : R s t := by
  cases Host.Outcome.next.inj ht
  split
  · split
    · exact h.refl s
    · exact h.trans (h.receiver ..) (h.raiseLink _)
  all_goals exact h.refl s

end

end Sys2Proof.Machine
end

section
/-! The statement on STEERED records and RETIRED spares (R74, R94). -/

namespace Sys2Proof.Machine

set_option Elab.async false

theorem keepsFinal_allowsLink : AllowsLink KeepsFinal where
  refl := .refl
  trans := .trans
  receiver _ _ := SameTables.keepsFinal {}
  respond _ _ := SameTables.keepsFinal {}
  reply q st b s := reply_keepsFinal q s st b
  raiseLink := raise_keepsFinal .link
  effect c q args s := commandEffect_keepsFinal q args s c

/-- Every command but the two resets leaves STEERED records and RETIRED spares as they are. -/
theorem exec_keepsFinal {c : Instr} {s t : State} (h : exec c s = .next t) (hpower : c ≠ .powerOn)
    (hdip : c ≠ .supplyDip) : KeepsFinal s t := by
  have hlink := keepsFinal_allowsLink
  cases c with
  | powerOn => exact absurd rfl hpower
  | supplyDip => exact absurd rfl hdip
  | holdEnd => exact (execHoldEnd_tables h).keepsFinal
  | busResetAsserted => exact (execBusResetAsserted_tables h).keepsFinal
  | busResetReleased =>
    cases Host.Outcome.next.inj h
    exact SameTables.keepsFinal {}
  | supplyWarningAsserted => exact (execSupplyWarningAsserted_tables h).keepsFinal
  | supplyWarningReleased => exact (execSupplyWarningReleased_tables h).keepsFinal
  | retentionExitEnd => exact (execRetentionExitEnd_tables h).keepsFinal
  | wakeEnd => exact (execWakeEnd_tables h).keepsFinal
  | quietEntryComplete => exact (execQuietEntryComplete_tables h).keepsFinal
  | drainToFrozen => exact (execDrainToFrozen_tables h).keepsFinal
  | readRequest tag addr =>
    cases Host.Outcome.next.inj h
    exact (present_tables ..).keepsFinal
  | writeRequest addr mask data parity =>
    cases Host.Outcome.next.inj h
    exact (present_tables ..).keepsFinal
  | requestWeighedAgain =>
    cases Host.Outcome.next.inj h
    exact (weighWaiting_tables s).keepsFinal
  | turnGrant a => exact (execTurnGrant_tables h).keepsFinal
  | hostReadComplete a f => exact execHostReadComplete_keepsFinal h
  | drainComplete a f => exact execDrainComplete_keepsFinal h
  | peekTurnComplete a f => exact execPeekTurnComplete_keepsFinal h
  | copyTurnComplete a f => exact execCopyTurnComplete_keepsFinal h
  | migrateTurnComplete a f => exact execMigrateTurnComplete_keepsFinal h
  | fillTurnComplete a => exact execFillTurnComplete_keepsFinal h
  | scrubTurnComplete a f => exact execScrubTurnComplete_keepsFinal h
  | scrubIntervalExpiry => exact (execScrubIntervalExpiry_tables h).keepsFinal
  | linkGapTimeout => exact hlink.linkGapTimeout h
  | discardingTimeout => exact hlink.discardingTimeout h
  | linkReject q code args check => exact hlink.linkReject h
  | unknown q code args => exact hlink.unknown h
  | byteArrives b =>
    cases Host.Outcome.next.inj h
    exact hlink.takeByte b s
  | responseSent =>
    cases Host.Outcome.next.inj h
    exact SameTables.keepsFinal {}
  | _ => exact hlink.row h

/-- Settles O12: every command but the resets stays within `KeepsFinal`. -/
theorem steeredAndRetiredStay : Obligations.SteeredAndRetiredStay := by
  intro c s t h hpower hdip
  have hfinal := exec_keepsFinal h hpower hdip
  exact ⟨hfinal.steered, hfinal.retired⟩

end Sys2Proof.Machine
end

section
/-! SUPPORT. The Lane Steering Unit by R96's table: one equation for each of its rows, for automatic and commanded
condemnations alike (R97 to R100); and what an occurrence hands to it after a row condemnation (R63). -/

namespace Sys2Proof.Machine

set_option Elab.async false

section
variable {s : State} {auto : Bool} {a : ArrayNo} {k : CodedLane}

/-! ## A lane from 0 to 71 (R97, R98, R100) -/

theorem condemnLaneEngine_coded (auto : Bool) (a : ArrayNo) (k : CodedLane) (s : State) :
    condemnLaneEngine auto a k.castSucc s = condemnCodedLane auto a k s := by
  have hcoded : finOf? 72 k.castSucc.val = some k := finOf?_some rfl
  simp only [condemnLaneEngine, hcoded]

theorem namedLane_eq_none_iff {r : SteerRecord} : namedLane r = none ↔ r = .normal := by
  cases r <;> simp [namedLane]

theorem condemnCodedLane_starts (h : s.steerOf a = .normal) (hon : (auto && !s.params.autoSteer) = false) :
    condemnCodedLane auto a k s = (setSteer a (.migrating k 0 (if auto then .auto else .host)) s, .started) := by
  simp [condemnCodedLane, namedLane_eq_none_iff.mpr h, hon]

/-- The lane that the record names is in hand already (R98). -/
theorem condemnCodedLane_named (h : namedLane (s.steerOf a) = some k) :
    condemnCodedLane auto a k s = (s, .ignored) := by
  simp [condemnCodedLane, h]

theorem condemnCodedLane_lacks {j : CodedLane} (h : namedLane (s.steerOf a) = some j) (hne : j ≠ k)
    (hon : (auto && !s.params.autoSteer) = false) : condemnCodedLane auto a k s = (raise .noSpare s, .noSpare) := by
  simp [condemnCodedLane, h, hne, hon]

/-- With AUTO-STEER at 0 an automatic condemnation does nothing (R100). -/
theorem condemnCodedLane_off (hoff : s.params.autoSteer = false) : condemnCodedLane true a k s = (s, .ignored) := by
  unfold condemnCodedLane
  rw [hoff]
  split
  · rfl
  · split <;> rfl

/-! ## Lane 72 (R99) -/

theorem condemnLaneEngine_72 (auto : Bool) (a : ArrayNo) (s : State) :
    condemnLaneEngine auto a 72 s = condemnSpareLane a s := by
  have hcoded : finOf? 72 (72 : PhysLane).val = none := finOf?_none le_rfl
  simp only [condemnLaneEngine, hcoded]

theorem condemnSpareLane_normal (h : s.steerOf a = .normal) : condemnSpareLane a s = (s, .ignored) := by
  simp only [condemnSpareLane, h]

theorem condemnSpareLane_migrating {c : Nat} {g : RepairOrigin} (h : s.steerOf a = .migrating k c g) :
    condemnSpareLane a s = (raise .noSpare (cancelMigration a s), .noSpare) := by
  simp only [condemnSpareLane, h]

theorem condemnSpareLane_steered {g : RepairOrigin} (h : s.steerOf a = .steered k g) :
    condemnSpareLane a s = (raise .noSpare s, .noSpare) := by
  simp only [condemnSpareLane, h]

/-! ## A migration cancelled (R99, R101, R107) -/

theorem steerOf_cancelMigration (b : ArrayNo) :
    (cancelMigration a s).steerOf b = if b = a then .normal else s.steerOf b := by
  rw [cancelMigration, steerOf_congr (mapTurn_sameData ..).steer, steerOf_setSteer]

theorem turn_cancelMigration (b : ArrayNo) : (cancelMigration a s).turn b =
    if b = a then (s.turn a).map (fun t => { t with work := t.work.voidMigration }) else s.turn b :=
  mapTurn_turn ..

theorem cancelMigration_frame (a : ArrayNo) (s : State) : cancelMigration a s =
    { s with steer := (cancelMigration a s).steer, turns := (cancelMigration a s).turns } := by
  rw [cancelMigration, mapTurn_frame]
  rfl

/-- A condemnation of a lane concerns the record of its array alone (R94). -/
theorem condemnLaneEngine_others {b : ArrayNo} (hb : b ≠ a) (auto : Bool) (l : PhysLane) (s : State) :
    (condemnLaneEngine auto a l s).1.steerOf b = s.steerOf b := by
  unfold condemnLaneEngine
  split
  · unfold condemnCodedLane
    split
    · split
      · rfl
      · rw [steerOf_setSteer, if_neg hb]
    · split
      · rfl
      · split
        · rfl
        · exact steerOf_congr (raise_steer ..) b
  · unfold condemnSpareLane
    split
    · rfl
    · rw [steerOf_congr (raise_steer ..), steerOf_cancelMigration, if_neg hb]
    · exact steerOf_congr (raise_steer ..) b

end

/-! ## An occurrence that condemns a lane (R62, R63) -/

/-- What of `s` still stands in `v`, where an occurrence has been recorded and its row's condemnation, if it calls for
one, has done its work: the steering records, the parameters, the migration in hand; without that condemnation all turns and
NO-SPARE. -/
structure BeforeLane (a : ArrayNo) (row : Prop) (s v : State) : Prop where
  steer : v.steer = s.steer
  params : v.params = s.params
  hand : ∀ k i x r, s.turn a = some { work := .migrate k i x, steer := r } → v.turn a = s.turn a
  alone : ¬row → NoSpareAndTurnsKept s v

/-- What the engine has done to the lane in `w` stands at the end of the occurrence: records, turns and NO-SPARE. -/
structure LaneWorkKept (w t : State) : Prop where
  steer : t.steer = w.steer
  turns : t.turns = w.turns
  noSpare : t.alert.flags.getLsbD 6 = w.alert.flags.getLsbD 6

/-- An occurrence that condemns a lane leaves what the engine makes of it, after what a condemned row leaves for it. -/
theorem deliver_lane {s : State} {o : Occurrence} {l : PhysLane} (hm : MapOk s.map) (hl : CondemnsLane s o l) :
    ∃ v, BeforeLane o.array (CondemnsRow s o) s v ∧
      LaneWorkKept (condemnLaneEngine true o.array l v).1 (deliver o s) := by
  obtain ⟨u, v, w, -, husteer, huturns, huparams, huflag, hrow, hnorow, hvsteer, hvparams, hlane, -, -⟩ :=
    deliver_engines (o := o) hm
  obtain ⟨rfl, hturns, hflag, hsteer⟩ := hlane l hl
  refine ⟨v, ⟨hvsteer.trans husteer, hvparams.trans huparams, fun k i x r hturn => ?_, fun hno => ?_⟩,
    ⟨hsteer, hturns, hflag⟩⟩
  · have huturn := turn_congr huturns o.array
    by_cases hr : CondemnsRow s o
    · obtain ⟨-, hvturns, -⟩ := hrow hr
      rw [turn_congr hvturns, condemnRowEngine_migration (huturn.trans hturn), huturn]
    · obtain ⟨-, hvturns, -⟩ := hnorow hr
      rw [turn_congr hvturns, huturn]
  · obtain ⟨-, hvturns, hvflag⟩ := hnorow hno
    exact ⟨hvturns.trans huturns, hvflag.trans huflag⟩

section
variable {a : ArrayNo} {row : Prop} {s v t : State} (hb : BeforeLane a row s v)
include hb

/-- A condemnation that the engine ignores changes no record (R98 to R100). -/
theorem BeforeLane.ignored (h : LaneWorkKept v t) :
    t.steerOf a = s.steerOf a ∧ (¬row → NoSpareAndTurnsKept s t) := by
  refine ⟨?_, fun hno => ?_⟩
  · rw [steerOf_congr h.steer, steerOf_congr hb.steer]
  · obtain ⟨hturns, hflag⟩ := hb.alone hno
    exact ⟨h.turns.trans hturns, h.noSpare.trans hflag⟩

/-- A condemnation for which lane 72 is not free changes no record and raises NO-SPARE (R98, R99). -/
theorem BeforeLane.lacked (h : LaneWorkKept (raise .noSpare v) t) :
    t.steerOf a = s.steerOf a ∧ t.alert.flags.getLsbD 6 = true := by
  refine ⟨?_, h.noSpare.trans (raise_sets .noSpare v)⟩
  rw [steerOf_congr h.steer, steerOf_congr (raise_steer ..), steerOf_congr hb.steer]

theorem BeforeLane.migrates {r : SteerRecord} (h : LaneWorkKept (setSteer a r v) t) :
    t.steerOf a = r ∧ (¬row → NoSpareAndTurnsKept s t) := by
  refine ⟨?_, fun hno => ?_⟩
  · rw [steerOf_congr h.steer, steerOf_setSteer, if_pos rfl]
  · obtain ⟨hturns, hflag⟩ := hb.alone hno
    exact ⟨h.turns.trans hturns, h.noSpare.trans hflag⟩

/-- The cancellation of a migration by lane 72: the record NORMAL, NO-SPARE raised, the migration in hand void (R99). -/
theorem BeforeLane.cancelled (h : LaneWorkKept (raise .noSpare (cancelMigration a v)) t) :
    t.steerOf a = .normal ∧ t.alert.flags.getLsbD 6 = true ∧
    ∀ (k : CodedLane) (i : PhysIndex) (x : Bool) (r : SteerRecord),
      s.turn a = some { work := .migrate k i x, steer := r } →
      t.turn a = some { work := .migrate k i true, steer := r } := by
  refine ⟨?_, h.noSpare.trans (raise_sets ..), fun k i x r hturn => ?_⟩
  · rw [steerOf_congr h.steer, steerOf_congr (raise_steer ..), steerOf_cancelMigration, if_pos rfl]
  · rw [turn_congr h.turns, turn_congr (raise_turns ..), turn_cancelMigration, if_pos rfl, hb.hand k i x r hturn, hturn]
    rfl

end

end Sys2Proof.Machine
end

section
/-! The statement on the lanes that occurrences condemn (R96 to R100). -/

namespace Sys2Proof.Machine

set_option Elab.async false

/-- With AUTO-STEER at 1 an automatic condemnation is acted on (R100). -/
theorem acts_of_autoSteer {s : State} (h : s.params.autoSteer = true) : (true && !s.params.autoSteer) = false := by
  rw [h]
  rfl

/-- Settles O43: what the engine makes of the lane by its table, over what a condemned row leaves for it. -/
theorem laneCondemnationsByTheRecord : Obligations.LaneCondemnationsByTheRecord := by
  rintro s o l t hm hlane rfl
  obtain ⟨v, hb, h⟩ := deliver_lane hm hlane
  have hrecord (b : ArrayNo) : v.steerOf b = s.steerOf b := steerOf_congr hb.steer b
  refine ⟨fun b hne => ?others, ?coded, ?spare⟩
  case others => rw [steerOf_congr h.steer, condemnLaneEngine_others hne, hrecord]
  case coded =>
    rintro k rfl
    rw [condemnLaneEngine_coded] at h
    have hoff (ha : s.params.autoSteer = false) := hb.ignored (by
      rwa [condemnCodedLane_off (by rw [hb.params, ha])] at h)
    have hacts (ha : s.params.autoSteer = true) : (true && !v.params.autoSteer) = false :=
      acts_of_autoSteer (by rw [hb.params, ha])
    refine ⟨fun hn => ?_, fun hk => ?_, fun j hj hne => ?_⟩
    · cases ha : s.params.autoSteer with
      | false => exact hn ▸ hoff ha
      | true =>
        rw [condemnCodedLane_starts ((hrecord _).trans hn) (hacts ha)] at h
        exact hb.migrates h
    · rw [condemnCodedLane_named (by rw [hrecord, hk])] at h
      exact hb.ignored h
    · cases ha : s.params.autoSteer with
      | false =>
        obtain ⟨hsame, hkept⟩ := hoff ha
        exact ⟨hsame, nofun, fun _ => hkept⟩
      | true =>
        rw [condemnCodedLane_lacks (by rw [hrecord, hj]) hne (hacts ha)] at h
        obtain ⟨hsame, hflag⟩ := hb.lacked h
        exact ⟨hsame, fun _ => hflag, nofun⟩
  case spare =>
    rintro rfl
    rw [condemnLaneEngine_72] at h
    refine ⟨fun hn => ?_, fun k g hs => ?_, fun k c g hs => ?_⟩
    · rw [condemnSpareLane_normal ((hrecord _).trans hn)] at h
      exact hn ▸ hb.ignored h
    · rw [condemnSpareLane_steered ((hrecord _).trans hs)] at h
      exact hs ▸ hb.lacked h
    · rw [condemnSpareLane_migrating ((hrecord _).trans hs)] at h
      exact hb.cancelled h

end Sys2Proof.Machine
end

section
/-! The statement on CONDEMN-LANE, LANE-CANCEL and LANE-LOAD (R97, R98, R101, R106 to R108). -/

namespace Sys2Proof.Machine

set_option Elab.async false

/-! ## CONDEMN-LANE (R106) -/

section
variable {s : State} {q : Byte} {args : List Byte}

theorem doCondemnLane_refused (h1 : s.path.path ≠ .setup) (h2 : s.path.path ≠ .opened) :
    doCondemnLane q args s = s.withReply q .refusedState [] := by
  unfold doCondemnLane
  split
  next hp => exact absurd hp h1
  next hp => exact absurd hp h2
  all_goals rfl

theorem doCondemnLane_badArgument (hp : s.path.path = .setup ∨ s.path.path = .opened)
    (h : installedArg s (argNat args 0 1) = none ∨ finOf? 72 (argNat args 1 1) = none) :
    doCondemnLane q args s = s.withReply q .badArgument [] := by
  rcases hp with hp | hp
  all_goals
    simp only [doCondemnLane, hp]
    split
    next hn hk =>
      rcases h with h | h
      · cases h.symm.trans hn
      · cases h.symm.trans hk
    · rfl

/-- A lane that may be condemned goes to the unit, and the reply follows the outcome (R106). -/
theorem doCondemnLane_condemns (hp : s.path.path = .setup ∨ s.path.path = .opened) {n : ArrayNo} {k : CodedLane}
    (hn : installedArg s (argNat args 0 1) = some n) (hk : finOf? 72 (argNat args 1 1) = some k)
    {x : State × RepairOutcome} (h : condemnCodedLane false n k s = x) :
    doCondemnLane q args s = x.1.withReply q x.2.reply [] := by
  rcases hp with hp | hp <;> simp only [doCondemnLane, hp, hn, hk, h, reply_eq]

/-! ## LANE-CANCEL (R107) -/

theorem doLaneCancel_badArgument (h : installedArg s (argNat args 0 1) = none) :
    doLaneCancel q args s = s.withReply q .badArgument [] := by
  simp only [doLaneCancel, h, reply_eq]

section
variable {n : ArrayNo} (hn : installedArg s (argNat args 0 1) = some n)
include hn

theorem doLaneCancel_normal (h : s.steerOf n = .normal) : doLaneCancel q args s = s.withReply q .empty [] := by
  simp only [doLaneCancel, hn, h, reply_eq]

theorem doLaneCancel_steered {k : CodedLane} {o : RepairOrigin} (h : s.steerOf n = .steered k o) :
    doLaneCancel q args s = s.withReply q .badArgument [] := by
  simp only [doLaneCancel, hn, h, reply_eq]

theorem doLaneCancel_migrating {k : CodedLane} {c : Nat} {o : RepairOrigin} (h : s.steerOf n = .migrating k c o) :
    doLaneCancel q args s = (cancelMigration n s).withReply q .ok [] := by
  simp only [doLaneCancel, hn, h, reply_eq]

end

/-! ## LANE-LOAD (R108) -/

theorem doLaneLoad_refused (h : s.path.path ≠ .setup) : doLaneLoad q args s = s.withReply q .refusedState [] := by
  unfold doLaneLoad
  split
  next hp => exact absurd hp h
  all_goals rfl

theorem doLaneLoad_badArgument (hp : s.path.path = .setup)
    (h : ∀ n k, installedArg s (argNat args 0 1) = some n → finOf? 72 (argNat args 1 1) = some k →
      s.steerOf n ≠ .normal) : doLaneLoad q args s = s.withReply q .badArgument [] := by
  simp only [doLaneLoad, hp]
  split
  next hn hk => exact if_neg (h _ _ hn hk)
  · rfl

theorem doLaneLoad_loads (hp : s.path.path = .setup) {n : ArrayNo} {k : CodedLane}
    (hn : installedArg s (argNat args 0 1) = some n) (hk : finOf? 72 (argNat args 1 1) = some k)
    (h : s.steerOf n = .normal) :
    doLaneLoad q args s = (setSteer n (.steered k .loaded) s).withReply q .ok [] := by
  simp only [doLaneLoad, hp, hn, hk, h, if_true, reply_eq]

end

/-! ## The commands -/

section
variable {s : State} {q a l : Byte} {rest : List Byte}

theorem exec_condemnLane (h : WillExecute q (a :: l :: rest) s) :
    exec (.condemnLane q (a :: l :: rest)) s = .next (doCondemnLane q (a :: l :: rest) s) :=
  exec_row_executes (c := .condemnLane) h (Nat.le_add_left 2 rest.length)

theorem exec_laneCancel (h : WillExecute q (a :: rest) s) :
    exec (.laneCancel q (a :: rest)) s = .next (doLaneCancel q (a :: rest) s) :=
  exec_row_executes (c := .laneCancel) h (Nat.le_add_left 1 rest.length)

theorem exec_laneLoad (h : WillExecute q (a :: l :: rest) s) :
    exec (.laneLoad q (a :: l :: rest)) s = .next (doLaneLoad q (a :: l :: rest) s) :=
  exec_row_executes (c := .laneLoad) h (Nat.le_add_left 2 rest.length)

theorem installedArg_first {n : ArrayNo} (ha : n.val = a.toNat) (hn : n.val < s.params.arrays.count) :
    installedArg s (argNat (a :: rest) 0 1) = some n :=
  installedArg_some (ha.trans (argNat_0_1 ..).symm) hn

theorem installedArg_first_none (ha : s.params.arrays.count ≤ a.toNat) :
    installedArg s (argNat (a :: rest) 0 1) = none :=
  installedArg_none (ha.trans_eq (argNat_0_1 ..).symm)

theorem codedLane_second {k : CodedLane} (hk : k.val = l.toNat) : finOf? 72 (argNat (a :: l :: rest) 1 1) = some k :=
  finOf?_some (hk.trans (argNat_1_1 ..).symm)

theorem codedLane_second_none (hl : 71 < l.toNat) : finOf? 72 (argNat (a :: l :: rest) 1 1) = none :=
  finOf?_none (Nat.le_trans hl (argNat_1_1 ..).ge)

end

/-- The migration in hand is void after the cancellation, any other turn as it was (R101). -/
theorem turn_cancelMigration_self (n : ArrayNo) (s : State) : (cancelMigration n s).turn n = (match s.turn n with
    | some { work := .migrate k i _, steer := r } => some { work := .migrate k i true, steer := r }
    | x => x) := by
  rw [turn_cancelMigration, if_pos rfl]
  cases s.turn n with
  | none => rfl
  | some t =>
    obtain ⟨w, r⟩ := t
    cases w <;> rfl

/-- Settles O60: each command by the record its arguments name. -/
theorem laneCommandsSteerAndRestore : Obligations.LaneCommandsSteerAndRestore := by
  refine ⟨fun s q a l rest h => ⟨?refused, fun hp => ⟨?bad, fun n k ha hn hk => ?condemn⟩⟩,
    fun s q a => ⟨fun ha => ⟨fun rest h => ?_, fun l rest h => ?_⟩,
      fun n ha hn => ⟨fun rest h => ?cancel, fun l rest h => ?load⟩⟩⟩
  case refused =>
    intro h1 h2
    rw [exec_condemnLane h, doCondemnLane_refused h1 h2]
  case bad =>
    intro hbad
    rw [exec_condemnLane h, doCondemnLane_badArgument hp (hbad.imp installedArg_first_none codedLane_second_none)]
  case condemn =>
    have hexec {x : State × RepairOutcome} (hx : condemnCodedLane false n k s = x) :=
      (exec_condemnLane h).trans
        (congrArg _ (doCondemnLane_condemns hp (installedArg_first ha hn) (codedLane_second hk) hx))
    refine ⟨fun hs => ?_, fun hs => hexec (condemnCodedLane_named hs), fun j hs hne => ?_⟩
    · refine ⟨setSteer n (.migrating k 0 .host) s, hexec (condemnCodedLane_starts hs rfl), ?_, fun b hb => ?_⟩
      · rw [steerOf_setSteer, if_pos rfl]
      · rw [steerOf_setSteer, if_neg hb]
    · have hlacks := hexec (condemnCodedLane_lacks hs hne rfl)
      rwa [raise_outside_quiet (not_quiet_of_takes hp)] at hlacks
  · rw [exec_laneCancel h, doLaneCancel_badArgument (installedArg_first_none ha)]
  · rw [exec_laneLoad h]
    split
    next hp =>
      rw [doLaneLoad_badArgument hp fun n k hn => by cases (installedArg_first_none ha).symm.trans hn]
    next hp => rw [doLaneLoad_refused hp]
  case cancel =>
    have hn := installedArg_first (rest := rest) ha hn
    rw [exec_laneCancel h]
    refine ⟨fun hs => ?_, fun k o hs => ?_, fun k c o hs => ?_⟩
    · rw [doLaneCancel_normal hn hs]
    · rw [doLaneCancel_steered hn hs]
    · refine ⟨cancelMigration n s, ?_, ?_, fun b hb => ⟨?_, ?_⟩, turn_cancelMigration_self n s⟩
      · rw [doLaneCancel_migrating hn hs, ← cancelMigration_frame]
      · rw [steerOf_cancelMigration, if_pos rfl]
      · rw [steerOf_cancelMigration, if_neg hb]
      · rw [turn_cancelMigration, if_neg hb]
  case load =>
    have hn := installedArg_first (rest := l :: rest) ha hn
    rw [exec_laneLoad h]
    refine ⟨fun hp => by rw [doLaneLoad_refused hp], fun hp => ⟨fun hbad => ?_, fun k hk hs => ?_⟩⟩
    · rw [doLaneLoad_badArgument hp fun m k hm hk => ?_]
      obtain rfl := Option.some.inj (hn.symm.trans hm)
      rcases hbad with hl | hs
      · cases (codedLane_second_none hl).symm.trans hk
      · exact hs
    · refine ⟨setSteer n (.steered k .loaded) s, ?_, ?_, fun b hb => ?_⟩
      · rw [doLaneLoad_loads hp hn (codedLane_second hk) hs]
        rfl
      · rw [steerOf_setSteer, if_pos rfl]
      · rw [steerOf_setSteer, if_neg hb]

end Sys2Proof.Machine
end

section
/-! The statement on the scrub walk (R112, R113). -/

namespace Sys2Proof.Machine

set_option Elab.async false

/-! ## The rows the walk visits (R113) -/

section
variable {s : State} {a : ArrayNo}

theorem servesHostRow_iff (row : Nat) (e : SubEntry) :
    (decide (e.array = a ∧ e.hostRow = row) && !e.isCopying) = true ↔
      e.array = a ∧ e.hostRow = row ∧ e.phase = .active := by
  rw [Bool.and_eq_true, decide_eq_true_eq, Bool.not_eq_true', Bool.eq_false_iff, ne_eq, isCopying_iff, not_not, and_assoc]

theorem servesFromSpare_iff (p : SpareNo) (e : SubEntry) :
    (decide (e.array = a ∧ e.target = p) && !e.isCopying) = true ↔
      e.array = a ∧ e.target = p ∧ e.phase = .active := by
  rw [Bool.and_eq_true, decide_eq_true_eq, Bool.not_eq_true', Bool.eq_false_iff, ne_eq, isCopying_iff, not_not, and_assoc]

theorem rowVisited_host {row : Nat} (h : row < hostRows) : rowVisited s a row = true ↔
    ∀ i : Fin 32, ∀ e ∈ s.subs.table.get i, e.array = a → e.hostRow = row → e.phase ≠ .active := by
  rw [rowVisited, if_pos h, ← Option.not_isSome, Bool.not_eq_true', Bool.eq_false_iff, ne_eq, entryWhere_isSome_iff]
  simp only [servesHostRow_iff, not_exists, not_and, Option.mem_def, ne_eq]

theorem rowVisited_spare (p : SpareNo) : rowVisited s a (spareRow p) = true ↔
    ∃ i : Fin 32, ∃ e ∈ s.subs.table.get i, e.array = a ∧ e.target = p ∧ e.phase = .active := by
  have hspare : ¬spareRow p < hostRows := Nat.not_lt.mpr (Nat.le_add_right ..)
  simp only [rowVisited, if_neg hspare, spareOfRow_spareRow, entryWhere_isSome_iff, servesFromSpare_iff, Option.mem_def]

end

/-! ## Walk order (R112) -/

theorem notBefore_iff {a b : ArrayNo} {row r : Nat} :
    NotBefore a row b r ↔ a.val < b.val ∨ (a.val = b.val ∧ row ≤ r) := by
  rw [NotBefore, Fin.lt_def, Fin.ext_iff]

theorem notBefore_refl (a : ArrayNo) (row : Nat) : NotBefore a row a row := .inr ⟨rfl, le_rfl⟩

theorem notBefore_antisymm {a b : ArrayNo} {row r : Nat} (h : NotBefore a row b r) (h' : NotBefore b r a row) :
    a = b ∧ row = r := by
  rw [notBefore_iff] at h h'
  rw [Fin.ext_iff]
  omega

/-- Past a row, the walk stands at its next row. -/
theorem notBefore_next_row {a c : ArrayNo} {row r : Nat} :
    NotBefore a (row + 1) c r ↔ NotBefore a row c r ∧ ¬(c = a ∧ r = row) := by
  rw [notBefore_iff, notBefore_iff, Fin.ext_iff]
  omega

/-- Past the last row of an array, the walk stands at row 0 of the array after it. -/
theorem notBefore_next_array {a b c : ArrayNo} {row r : Nat} (hb : b.val = a.val + 1) (hrow : physRows ≤ row)
    (hr : r < physRows) : NotBefore b 0 c r ↔ NotBefore a row c r := by
  rw [notBefore_iff, notBefore_iff]
  omega

/-! ## Where the walk comes to rest -/

/-- A visited row of an installed array, at or after a position of the walk (R112, R113). -/
structure Ahead (s : State) (a : ArrayNo) (row : Nat) (b : ArrayNo) (r : Nat) : Prop where
  installed : b.val < s.params.arrays.count
  row_lt : r < physRows
  notBefore : NotBefore a row b r
  visited : rowVisited s b r = true

/-- The first visited row at or after a position in walk order, or none where there is no such row (R112, R113). -/
def IsFirstAhead (s : State) (a : ArrayNo) (row : Nat) : Option (ArrayNo × Nat) → Prop
  | some (b, r) => Ahead s a row b r ∧ ∀ c r', Ahead s a row c r' → NotBefore b r c r'
  | none => ∀ c r', ¬Ahead s a row c r'

section
variable {s : State} {a : ArrayNo} {row : Nat}

theorem IsFirstAhead.unique {x y : Option (ArrayNo × Nat)} (hx : IsFirstAhead s a row x)
    (hy : IsFirstAhead s a row y) : x = y := by
  match x, y with
  | none, none => rfl
  | none, some (c, r') => exact absurd hy.1 (hx c r')
  | some (b, r), none => exact absurd hx.1 (hy b r)
  | some (b, r), some (c, r') =>
    obtain ⟨rfl, rfl⟩ := notBefore_antisymm (hx.2 c r' hy.1) (hy.2 b r hx.1)
    rfl

/-- Two positions with the same rows ahead have the same first one. -/
theorem isFirstAhead_congr {b : ArrayNo} {r : Nat} (h : ∀ c r', Ahead s b r c r' ↔ Ahead s a row c r')
    (x : Option (ArrayNo × Nat)) : IsFirstAhead s b r x ↔ IsFirstAhead s a row x := by
  match x with
  | none => simp only [IsFirstAhead, h]
  | some (c, r') => simp only [IsFirstAhead, h]

theorem isFirstAhead_here (ha : a.val < s.params.arrays.count) (hrow : row < physRows)
    (hv : rowVisited s a row = true) : IsFirstAhead s a row (some (a, row)) :=
  ⟨⟨ha, hrow, notBefore_refl a row, hv⟩, fun _ _ h => h.notBefore⟩

theorem ahead_past_unvisited (hv : ¬rowVisited s a row = true) (c : ArrayNo) (r' : Nat) :
    Ahead s a (row + 1) c r' ↔ Ahead s a row c r' := by
  constructor
  · rintro ⟨hc, hr, hn, hvis⟩
    exact ⟨hc, hr, (notBefore_next_row.mp hn).1, hvis⟩
  · rintro ⟨hc, hr, hn, hvis⟩
    refine ⟨hc, hr, notBefore_next_row.mpr ⟨hn, ?_⟩, hvis⟩
    rintro ⟨rfl, rfl⟩
    exact hv hvis

theorem ahead_past_array {b : ArrayNo} (hb : b.val = a.val + 1) (hrow : physRows ≤ row) (c : ArrayNo) (r' : Nat) :
    Ahead s b 0 c r' ↔ Ahead s a row c r' := by
  constructor
  · rintro ⟨hc, hr, hn, hvis⟩
    exact ⟨hc, hr, (notBefore_next_array hb hrow hr).mp hn, hvis⟩
  · rintro ⟨hc, hr, hn, hvis⟩
    exact ⟨hc, hr, (notBefore_next_array hb hrow hr).mpr hn, hvis⟩

/-- Past the last row of the last installed array, the walk has ended. -/
theorem not_ahead_past_end (ha : s.params.arrays.count ≤ a.val + 1) (hrow : physRows ≤ row) (c : ArrayNo) (r' : Nat) :
    ¬Ahead s a row c r' := by
  rintro ⟨hc, hr, hn, -⟩
  rw [notBefore_iff] at hn
  omega

/-! ## The steps of the walk -/

theorem seekRow_here (n : Nat) (hrow : row < physRows) (hv : rowVisited s a row = true) :
    seekRow s (n + 1) a row = some (a, row) := by
  rw [seekRow, if_pos hrow, if_pos hv]

theorem seekRow_unvisited (n : Nat) (hrow : row < physRows) (hv : ¬rowVisited s a row = true) :
    seekRow s (n + 1) a row = seekRow s n a (row + 1) := by
  rw [seekRow, if_pos hrow, if_neg hv]

theorem seekRow_next_array (n : Nat) {b : ArrayNo} (hrow : physRows ≤ row) (hb : b.val = a.val + 1)
    (hinst : b.val < s.params.arrays.count) : seekRow s (n + 1) a row = seekRow s n b 0 := by
  rw [seekRow, if_neg (Nat.not_lt.mpr hrow), nextInstalled_eq_some hb (decide_eq_true hinst)]

theorem seekRow_past_end (n : Nat) (hrow : physRows ≤ row) (ha : s.params.arrays.count ≤ a.val + 1) :
    seekRow s (n + 1) a row = none := by
  rw [seekRow, if_neg (Nat.not_lt.mpr hrow), nextInstalled_eq_none ha]

/-- The rows and array ends from a position to the end of the walk. -/
def walkLeft (a : ArrayNo) (row : Nat) : Nat := (7 - a.val) * (physRows + 1) + (physRows - row)

theorem walkLeft_next_row (a : ArrayNo) {row : Nat} (h : row < physRows) :
    walkLeft a row = walkLeft a (row + 1) + 1 := by
  unfold walkLeft
  omega

theorem walkLeft_next_array {a b : ArrayNo} (hb : b.val = a.val + 1) : walkLeft a physRows = walkLeft b 0 + 1 := by
  have hsplit : 7 - a.val = (7 - b.val) + 1 := by omega
  unfold walkLeft
  rw [hsplit, Nat.succ_mul]
  omega

theorem walkLeft_lt_walkFuel (a : ArrayNo) (row : Nat) : walkLeft a row < walkFuel := by
  have harrays : (7 - a.val) * (physRows + 1) ≤ 7 * (physRows + 1) := Nat.mul_le_mul_right _ (Nat.sub_le ..)
  unfold walkLeft walkFuel
  omega

end

/-- With fuel to the end of the walk, the cursor comes to rest at the first visited row ahead, or the walk ends. -/
theorem seekRow_isFirstAhead {s : State} {n : Nat} {a : ArrayNo} {row : Nat} (ha : a.val < s.params.arrays.count)
    (hrow : row ≤ physRows) (hn : walkLeft a row < n) : IsFirstAhead s a row (seekRow s n a row) := by
  induction n generalizing a row with
  | zero => exact absurd hn (Nat.not_lt_zero _)
  | succ n ih =>
    rcases Nat.lt_or_eq_of_le hrow with hlt | rfl
    · by_cases hv : rowVisited s a row = true
      · rw [seekRow_here n hlt hv]
        exact isFirstAhead_here ha hlt hv
      · rw [seekRow_unvisited n hlt hv, ← isFirstAhead_congr (ahead_past_unvisited hv)]
        rw [walkLeft_next_row a hlt] at hn
        exact ih ha hlt (Nat.lt_of_succ_lt_succ hn)
    · rcases Nat.lt_or_ge (a.val + 1) s.params.arrays.count with hnext | hend
      · obtain ⟨b, hb⟩ : ∃ b : ArrayNo, b.val = a.val + 1 :=
          ⟨⟨a.val + 1, Nat.lt_of_lt_of_le hnext s.params.arrays.count_le⟩, rfl⟩
        rw [seekRow_next_array n le_rfl hb (hb ▸ hnext), ← isFirstAhead_congr (ahead_past_array hb le_rfl)]
        rw [walkLeft_next_array hb] at hn
        exact ih (hb ▸ hnext) (Nat.zero_le _) (Nat.lt_of_succ_lt_succ hn)
      · rw [seekRow_past_end n le_rfl hend]
        exact not_ahead_past_end hend le_rfl

/-- The walk from a position of an installed array, by the rows ahead of it (R112, R113). -/
theorem seekRow_eq_iff {s : State} {a : ArrayNo} {row : Nat} (ha : a.val < s.params.arrays.count)
    (hrow : row ≤ physRows) {x : Option (ArrayNo × Nat)} :
    seekRow s walkFuel a row = x ↔ IsFirstAhead s a row x := by
  have hfirst := seekRow_isFirstAhead ha hrow (walkLeft_lt_walkFuel a row)
  constructor
  · rintro rfl
    exact hfirst
  · exact hfirst.unique

/-- Settles O39: which rows are visited, by their two kinds; then the first of them ahead of a position. -/
theorem scrubVisitsRowsInOrder : Obligations.ScrubVisitsRowsInOrder := by
  refine ⟨fun s a => ⟨fun row => rowVisited_host, rowVisited_spare⟩,
    fun s a row ha hrow => ⟨fun b r => (seekRow_eq_iff ha hrow).trans ?_, (seekRow_eq_iff ha hrow).trans ?_⟩⟩
  · constructor
    · rintro ⟨⟨hb, hr, hn, hv⟩, hfirst⟩
      exact ⟨hb, hr, hn, hv, fun c r' hc hr' hn' hv' => hfirst c r' ⟨hc, hr', hn', hv'⟩⟩
    · rintro ⟨hb, hr, hn, hv, hfirst⟩
      exact ⟨⟨hb, hr, hn, hv⟩, fun c r' h => hfirst c r' h.installed h.row_lt h.notBefore h.visited⟩
  · constructor
    · exact fun h c r' hc hr hn => Bool.eq_false_iff.mpr fun hv => h c r' ⟨hc, hr, hn, hv⟩
    · exact fun h c r' hx => absurd hx.visited (Bool.eq_false_iff.mp (h c r' hx.installed hx.row_lt hx.notBefore))

end Sys2Proof.Machine
end

section
/-! The statement on pass completion and the SCRUB interval (R65, R113, R116, R118). -/

namespace Sys2Proof.Machine

set_option Elab.async false

/-! ## Aging (R65) -/

theorem agesOut_iff (p : BitVec 16) (e : MapEntry) :
    e.agesOut p = true ↔ (e.state = .watch ∧ e.lastPass ≠ p) ∧ e.occurrences / 2 = 0 := by
  simp only [MapEntry.agesOut, Bool.and_eq_true, beq_iff_eq, bne_iff_ne]

/-- What becomes of an entry at the completion of pass `p`: a WATCH entry not updated in it has its count halved, and leaves
the map when that is zero. -/
theorem slot_aged_eq_bind (p : BitVec 16) (m : FaultMap) (j : Fin 64) : (m.aged p).slot j = (m.slot j).bind (fun e =>
    if e.state = .watch ∧ e.lastPass ≠ p then
      (if e.occurrences / 2 = 0 then none else some { e with occurrences := e.occurrences / 2 })
    else some e) := by
  rw [slot_aged, slot_removeWhere]
  cases m.slot j with
  | none => rfl
  | some e =>
    simp only [Option.filter_some, Option.bind_some, Bool.not_eq_true', Bool.eq_false_iff, ne_eq, agesOut_iff]
    by_cases hage : e.state = .watch ∧ e.lastPass ≠ p
    · by_cases hzero : e.occurrences / 2 = 0
      · simp [hage, hzero]
      · simp [MapEntry.age, hage, hzero]
    · simp [MapEntry.age, hage]

theorem recency_aged_sublist (p : BitVec 16) (m : FaultMap) : (m.aged p).recency.Sublist m.recency :=
  List.filter_sublist

/-! ## The completion of a pass (R118) -/

/-- The walk reads the installed arrays and the Substitution Table, and nothing else (R112, R113). -/
theorem seekRow_congr {s t : State} (hparams : t.params = s.params) (hsubs : t.subs = s.subs) (n : Nat) (a : ArrayNo)
    (row : Nat) : seekRow t n a row = seekRow s n a row := by
  have hvisited (b : ArrayNo) (r : Nat) : rowVisited t b r = rowVisited s b r := by
    simp only [rowVisited, entryWhere, hsubs]
  have hinst (b : ArrayNo) : installed t b = installed s b := by
    rw [installed, hparams, installed]
  have hnext (b : ArrayNo) : nextInstalled t b = nextInstalled s b := by
    simp only [nextInstalled, hinst]
  induction n generalizing a row with
  | zero => rfl
  | succ n ih => simp only [seekRow, hvisited, hnext, ih]

theorem firstPosition_congr {s t : State} (hparams : t.params = s.params) (hsubs : t.subs = s.subs) :
    firstPosition t = firstPosition s := by
  simp only [firstPosition, seekRow_congr hparams hsubs]

theorem firstPosition_of_seekRow {s : State} {b : ArrayNo} {row : Nat} (h : seekRow s walkFuel 0 0 = some (b, row)) :
    firstPosition s = { array := b, row := row, column := 0 } := by
  simp only [firstPosition, h]

theorem firstPosition_of_visited {s : State} (h : rowVisited s 0 0 = true) :
    firstPosition s = { array := 0, row := 0, column := 0 } :=
  firstPosition_of_seekRow (seekRow_here (8 * (physRows + 1)) zero_lt_physRows h)

section
variable (s : State)

theorem completePass_scrub : (completePass s).scrub =
    { s.scrub with pass := s.scrub.pass + 1, cursor := firstPosition s } := by
  have hfirst : firstPosition (raise .pass (passAged s)) = firstPosition s :=
    firstPosition_congr (raise_params ..) (raise_subs ..)
  rw [completePass_eq, setCursor_scrub, raise_scrub, hfirst]
  rfl

theorem completePass_map : (completePass s).map = s.map.aged s.scrub.pass := by
  rw [completePass_eq, setCursor_map, raise_map]
  rfl

theorem completePass_flags : (completePass s).alert.flags = s.alert.flags ||| 0x80 := by
  rw [completePass_eq, setCursor_alert, raise_alert]
  rfl

end

/-! ## The SCRUB interval (R116) -/

theorem exec_scrubIntervalExpiry_runs {s : State} (h : s.params.scrubInterval ≠ 0) : exec .scrubIntervalExpiry s =
    .next { s with scrub := { s.scrub with claim := true, timer := s.params.scrubInterval } } := by
  show execScrubIntervalExpiry s = _
  rw [execScrubIntervalExpiry, if_neg h]

theorem exec_scrubIntervalExpiry_stopped {s : State} (h : s.params.scrubInterval = 0) :
    exec .scrubIntervalExpiry s = .next s := by
  show execScrubIntervalExpiry s = _
  rw [execScrubIntervalExpiry, if_pos h]

/-- Settles O38: where the walk ends the cursor's move is the pass completion, part by part; then the expiry. -/
theorem passesAndTheInterval : Obligations.PassesAndTheInterval := by
  refine ⟨fun s hcol hend => ?pass,
    fun s => ⟨exec_scrubIntervalExpiry_runs, exec_scrubIntervalExpiry_stopped⟩⟩
  have hframe := advanceCursor_frame s
  rw [advanceCursor_end hcol hend] at hframe ⊢
  rw [completePass_scrub, completePass_map, completePass_flags]
  refine ⟨BitVec.toNat_add .., rfl, fun b row => firstPosition_of_seekRow, firstPosition_of_visited,
    recency_aged_sublist .., slot_aged_eq_bind _ _, ?_, ?_, ?_⟩
  · rw [hframe]
  · rw [hframe]
  · rw [hframe]

end Sys2Proof.Machine
end

section
/-! The statement on the Write Queue and the Outstanding Read List through every step (R124, R147; log 15). -/

namespace Sys2Proof.Machine

set_option Elab.async false

/-- Settles O7: the Write Queue and the Outstanding Read List are two of the invariants that every step keeps, each for
itself. -/
theorem stepsKeepQueueAndReads : Obligations.StepsKeepQueueAndReads :=
  fun _ _ hqueue hreads h => ⟨(step_keeps h).queue hqueue, (step_keeps h).reads hreads⟩

end Sys2Proof.Machine
end

section
/-! SUPPORT. Requests at the host memory port (R142 to R146): the commands that present them, and what becomes of a
request in each row of R144's table. -/

namespace Sys2Proof.Machine

set_option Elab.async false

/-! ## The commands (R142, R146) -/

/-- The command that presents a request. -/
def Request.command : Request → Instr
  | .read tag w => .readRequest tag w
  | .write w mask data parity => .writeRequest w mask data parity

theorem exec_command (r : Request) (s : State) : exec r.command s = .next (present r s) := by cases r <;> rfl

theorem exec_requestWeighedAgain (s : State) : exec .requestWeighedAgain s = .next (weighWaiting s) := rfl

section
variable {r : Request} {s : State}

/-- While a request waits the port accepts no other (R142). -/
theorem exec_command_waiting {x : Request} (h : s.port.waiting = some x) : exec r.command s = .next s := by
  simp only [exec_command, present, h]

theorem present_of_idle (h : s.port.waiting = none) : present r s = weigh r s := by simp only [present, h]

/-- A request weighed again is presented anew, the waiting place empty (R146). -/
theorem exec_requestWeighedAgain_some (h : s.port.waiting = some r) :
    exec .requestWeighedAgain s = exec r.command { s with port := { s.port with waiting := none } } := by
  rw [exec_requestWeighedAgain, exec_command, weighWaiting_some h, present_of_idle rfl]

theorem exec_requestWeighedAgain_none (h : s.port.waiting = none) : exec .requestWeighedAgain s = .next s := by
  rw [exec_requestWeighedAgain, weighWaiting_none h]

/-! ## The rows of the table (R144, R145) -/

theorem weigh_hold (hp : s.path.path = .hold) : weigh r s = s := by
  simp only [weigh, hp, ite_self]

theorem weigh_waking (hb : s.busReset = false) (hp : s.path.path = .waking) : weigh r s = keepWaiting r s := by
  simp only [weigh, hb, hp, Bool.false_eq_true, if_false]

theorem weigh_quiet (hb : s.busReset = false) (hp : s.path.path = .quiet) :
    weigh r s = keepWaiting r (beginWake s) := by
  simp only [weigh, hb, hp, Bool.false_eq_true, if_false]

theorem weigh_enteringQuiet (hb : s.busReset = false) (hp : s.path.path = .enteringQuiet) :
    weigh r s = weighOpen r (abandonQuiet s) := by
  simp only [weigh, hb, hp, Bool.false_eq_true, if_false]

/-- In OPEN the request is dealt with by its tests (R148, R149). -/
theorem exec_command_opened (hp : s.path.path = .opened) (hb : s.busReset = false) (hw : s.port.waiting = none) :
    exec r.command s = .next (weighOpen r s) := by
  rw [exec_command, present_of_idle hw, weigh_opened hb hp]

theorem exec_readRequest_opened {tag : BitVec 4} {w : BitVec 28} (hp : s.path.path = .opened) (hb : s.busReset = false)
    (hw : s.port.waiting = none) : exec (.readRequest tag w) s = .next (weighRead tag w s) :=
  exec_command_opened (r := .read tag w) hp hb hw

theorem exec_writeRequest_opened {w : BitVec 28} {mask : Byte} {data : Data} {parity : Byte}
    (hp : s.path.path = .opened) (hb : s.busReset = false) (hw : s.port.waiting = none) :
    exec (.writeRequest w mask data parity) s = .next (weighWrite w mask data parity s) :=
  exec_command_opened (r := .write w mask data parity) hp hb hw

/-! ## The withheld QUIESCE (R164, R187) -/

theorem answerQuiesce_withheld {q : Byte} (h : s.link.lock = some { seq := q, command := .quiesce }) (st : LinkStatus) :
    answerQuiesce st s = unlock (reply q st [] s) := by simp only [answerQuiesce, h]

theorem answerQuiesce_frame (st : LinkStatus) (s : State) :
    answerQuiesce st s = { s with link := (answerQuiesce st s).link } := by
  unfold answerQuiesce; split <;> rfl

theorem abandonQuiet_withheld {q : Byte} (h : s.link.lock = some { seq := q, command := .quiesce }) : abandonQuiet s =
    { { s with link := { s.link with lock := none } }.withReply q .abandoned [] with
      path := { s.path with path := .opened, resume := .opened, lastQuiet := .abandoned } } :=
  answerQuiesce_withheld (s := setQuietOutcome .abandoned (moveTo .opened s)) h .abandoned

theorem abandonQuiet_frame (s : State) : abandonQuiet s = { s with
    path := { s.path with path := .opened, resume := .opened, lastQuiet := .abandoned }
    link := (abandonQuiet s).link } := answerQuiesce_frame ..

/-- An arrival in ENTERING-QUIET abandons the entry and is dealt with as one in OPEN (R145, R164). -/
theorem exec_command_enteringQuiet (hp : s.path.path = .enteringQuiet) (hb : s.busReset = false)
    (hw : s.port.waiting = none) : exec r.command s = exec r.command (abandonQuiet s) := by
  have hbus : (abandonQuiet s).busReset = false := by rw [abandonQuiet_frame]; exact hb
  have hwait : (abandonQuiet s).port.waiting = none := by rw [abandonQuiet_frame]; exact hw
  rw [exec_command_opened (abandonQuiet_path s) hbus hwait, exec_command, present_of_idle hw, weigh_enteringQuiet hb hp]

end

end Sys2Proof.Machine
end

section
/-! SUPPORT. A read weighed in OPEN (R129 to R131, R148), an equation for each outcome of its tests. -/

namespace Sys2Proof.Machine

set_option Elab.async false

/-- A word address at or above the words of the installed arrays is out of range (R20). -/
theorem inRange_eq_false {n : ArrayCount} {w : BitVec 28} (h : n.count * 33554432 ≤ w.toNat) : inRange n w = false :=
  decide_eq_false (Nat.not_lt.mpr h)

/-- A read refused at take gets eight zero bytes in even parity (R152). -/
theorem answerRead_refused {st : ReadStatus} (h : st.goodData = false) (tag : BitVec 4) (s : State) :
    answerRead tag 0 st s = answer (.read tag 0 0 st) s := by
  have hparity : sentParity (0 : Data) false = 0 := by decide
  rw [answerRead, h, hparity]

section
variable {tag : BitVec 4} {w : BitVec 28} {s : State}

/-! ## Room, tag and range (R148 tests 1 to 3) -/

theorem weighRead_full (h : 8 ≤ s.port.reads.length) : weighRead tag w s = keepWaiting (.read tag w) s := if_pos h

theorem weighRead_tagClash (hroom : s.port.reads.length < 8) (h : ∃ r ∈ s.port.reads, r.tag = tag) :
    weighRead tag w s = answer (.read tag 0 0 .tagClash) s := by
  have hclash : s.port.reads.any (fun r => r.tag == tag) = true := by simpa using h
  rw [weighRead, if_neg (Nat.not_le.mpr hroom), if_pos hclash, answerRead_refused rfl]

theorem weighRead_distinct (hroom : s.port.reads.length < 8) (htag : ∀ r ∈ s.port.reads, r.tag ≠ tag) :
    weighRead tag w s = if !inRange s.params.arrays w then answerRead tag 0 .range s else takeRead tag w s := by
  have hclash : ¬s.port.reads.any (fun r => r.tag == tag) = true := by simpa using htag
  rw [weighRead, if_neg (Nat.not_le.mpr hroom), if_neg hclash]

theorem weighRead_outOfRange (hroom : s.port.reads.length < 8) (htag : ∀ r ∈ s.port.reads, r.tag ≠ tag)
    (h : s.params.arrays.count * 33554432 ≤ w.toNat) : weighRead tag w s = answer (.read tag 0 0 .range) s := by
  rw [weighRead_distinct hroom htag, inRange_eq_false h, answerRead_refused rfl]
  rfl

theorem weighRead_taken (hroom : s.port.reads.length < 8) (htag : ∀ r ∈ s.port.reads, r.tag ≠ tag)
    (h : w.toNat < s.params.arrays.count * 33554432) : weighRead tag w s = takeRead tag w s := by
  rw [weighRead_distinct hroom htag, (inRange_iff ..).mpr h]
  rfl

/-! ## The Write Queue (R148 test 4) -/

/-- A full-mask entry answers the read at take, POISON for a poisoned one (R130). -/
theorem takeRead_fullEntry {e : WriteEntry} (h : queueFind s.queue w = some e) (hm : e.mask = 0xFF) :
    takeRead tag w s = answer
      (.read tag e.data (sentParity e.data (!e.poisoned)) (if e.poisoned then .poison else .good)) (takePlace s) := by
  have hgood : (if e.poisoned then ReadStatus.poison else .good).goodData = !e.poisoned := by
    cases e.poisoned <;> rfl
  simp only [takeRead, h, if_pos (show e.mask = fullMask from hm), answerRead, hgood]

/-- Any other read joins the list, with a snapshot of a partial-mask entry (R131). -/
theorem takeRead_joins {snap : Option Snapshot} (h : (queueFind s.queue w = none ∧ snap = none) ∨
    (∃ e : WriteEntry, queueFind s.queue w = some e ∧ e.mask ≠ 0xFF ∧
      snap = some { mask := e.mask, data := e.data, poisoned := e.poisoned })) :
    takeRead tag w s = joinList tag w snap s := by
  rcases h with ⟨hfind, rfl⟩ | ⟨e, hfind, hm, rfl⟩
  · simp only [takeRead, hfind]
  · simp only [takeRead, hfind, if_neg (show ¬e.mask = fullMask from hm)]
    rfl

end

end Sys2Proof.Machine
end

section
/-! SUPPORT. A write weighed in OPEN (R126 to R128, R149, R150), an equation for each outcome of its tests. -/

namespace Sys2Proof.Machine

set_option Elab.async false

section
variable {n : ArrayCount} {l : List WriteEntry} {w : BitVec 28} {m : Byte} {d : Data} {poisoned : Bool} {place : Nat}

/-! ## The Write Queue (R126 to R128) -/

theorem queueTake_inDrain {e : WriteEntry} (h : queueFind l w = some e) (hd : e.inDrain = true) :
    queueTake n l w m d poisoned place = none := by simp only [queueTake, h, hd, if_true]

theorem queueTake_full (h : queueFind l w = none) (hlen : 16 ≤ l.length) :
    queueTake n l w m d poisoned place = none := by simp only [queueTake, h, if_neg (Nat.not_lt.mpr hlen)]

/-- A merged entry is poisoned by a poisoned write, and made clean by a clean one with a full mask alone (R127). -/
theorem WriteEntry.merge_eq (e : WriteEntry) : e.merge m d poisoned place = { e with
    data := mergeBytes m d e.data
    mask := e.mask ||| m
    mark := place
    poisoned := poisoned || (e.poisoned && m != 0xFF) } := by
  have hmark : (if poisoned then true else if m = fullMask then false else e.poisoned) =
      (poisoned || (e.poisoned && m != 0xFF)) := by
    cases poisoned with
    | true => rfl
    | false =>
      rcases eq_or_ne m 0xFF with rfl | hm
      · cases e.poisoned <;> rfl
      · rw [if_neg Bool.false_ne_true, if_neg (show ¬m = fullMask from hm), bne_iff_ne.mpr hm, Bool.and_true,
          Bool.false_or]
  rw [WriteEntry.merge, hmark]

theorem queueTake_merges {e : WriteEntry} (h : queueFind l w = some e) (hd : e.inDrain = false) :
    queueTake n l w m d poisoned place = some (l.map (fun x : WriteEntry => if x.addr = w then { x with
      data := mergeBytes m d x.data
      mask := x.mask ||| m
      mark := place
      poisoned := poisoned || (x.poisoned && m != 0xFF) } else x)) := by
  simp only [queueTake, h, hd, Bool.false_eq_true, if_false, WriteEntry.merge_eq]

theorem queueTake_appends (h : queueFind l w = none) (hlen : l.length < 16) :
    queueTake n l w m d poisoned place = some (l ++ [.create n w m d poisoned place]) := by
  simp only [queueTake, h, if_pos hlen]

end

section
variable {s : State} {w : BitVec 28} {m : Byte} {d : Data} {p : Byte}

/-! ## Range and mask (R149 tests 1 and 2) -/

theorem weighWrite_outOfRange (h : s.params.arrays.count * 33554432 ≤ w.toNat) :
    weighWrite w m d p s = answer (.write .range) s := by
  rw [weighWrite, inRange_eq_false h]
  rfl

theorem weighWrite_emptyMask (h : w.toNat < s.params.arrays.count * 33554432) :
    weighWrite w 0 d p s = answer (.write .taken) s := by
  rw [weighWrite, (inRange_iff ..).mpr h]
  rfl

/-! ## The queue's decision (R149 test 4) -/

theorem weighWrite_waits (h : w.toNat < s.params.arrays.count * 33554432) (hm : m ≠ 0)
    (hq : queueTake s.params.arrays s.queue w m d (parityFails m d p) s.port.nextPlace = none) :
    weighWrite w m d p s = keepWaiting (.write w m d p) s := by
  simp only [weighWrite, (inRange_iff ..).mpr h, Bool.not_true, Bool.false_eq_true, if_false, if_neg hm, hq]

theorem weighWrite_taken (h : w.toNat < s.params.arrays.count * 33554432) (hm : m ≠ 0) {q : List WriteEntry}
    (hq : queueTake s.params.arrays s.queue w m d (parityFails m d p) s.port.nextPlace = some q) :
    weighWrite w m d p s = takeWrite q (parityFails m d p) s := by
  simp only [weighWrite, (inRange_iff ..).mpr h, Bool.not_true, Bool.false_eq_true, if_false, if_neg hm, hq]

theorem State.withFlags_zero (s : State) : s.withFlags 0 = s :=
  congrArg (fun flags => { s with alert := { s.alert with flags := flags } }) BitVec.or_zero

/-- A write taken takes the next place and is acknowledged; a poisoned one raises POISON-IN (R150). -/
theorem takeWrite_eq (hp : s.path.path ≠ .quiet) (q : List WriteEntry) (poisoned : Bool) : takeWrite q poisoned s =
    (answer (.write (if poisoned then .takenPoisoned else .taken)) (takePlace { s with queue := q })).withFlags
      (if poisoned then 4 else 0) := by
  cases poisoned with
  | true => exact raise_outside_quiet (f := .poisonIn) hp
  | false => exact (State.withFlags_zero _).symm

end

end Sys2Proof.Machine
end

section
/-! The statements on the requests at the host memory port (R126 to R131, R142 to R153, R164). -/

namespace Sys2Proof.Machine

set_option Elab.async false

/-- Settles O27: the read is weighed at once, and each outcome of its tests is one equation. -/
theorem readsAreWeighedInOrder : Obligations.ReadsAreWeighedInOrder := by
  intro s tag w hp hb hw
  rw [exec_readRequest_opened hp hb hw]
  refine ⟨fun hfull => congrArg _ (weighRead_full hfull), fun hroom => ⟨fun hclash => ?tag, fun htag =>
    ⟨fun hout => ?range, fun hin => ⟨fun e hfind hm => ?full, fun snap hsnap => ?joins⟩⟩⟩⟩
  case tag => exact congrArg _ (weighRead_tagClash hroom hclash)
  case range => exact congrArg _ (weighRead_outOfRange hroom htag hout)
  case full => exact congrArg _ ((weighRead_taken hroom htag hin).trans (takeRead_fullEntry hfind hm))
  case joins => exact congrArg _ ((weighRead_taken hroom htag hin).trans (takeRead_joins hsnap))

/-- Settles O28: the write is weighed at once, and each outcome of its tests is one equation. -/
theorem writesAreWeighedInOrder : Obligations.WritesAreWeighedInOrder := by
  intro s w m d p hp hb hw
  rw [exec_writeRequest_opened hp hb hw]
  refine ⟨fun hout => congrArg _ (weighWrite_outOfRange hout), fun hin => ⟨fun hzero => ?empty, fun hm =>
    ⟨fun e hfind hdrain => ?inDrain, fun hfind hlen => ?noRoom, fun q hq => ?taken⟩⟩⟩
  case empty => exact hzero ▸ congrArg _ (weighWrite_emptyMask hin)
  case inDrain => exact congrArg _ (weighWrite_waits hin hm (queueTake_inDrain hfind hdrain))
  case noRoom => exact congrArg _ (weighWrite_waits hin hm (queueTake_full hfind hlen))
  case taken =>
    have htake : queueTake s.params.arrays s.queue w m d (parityFails m d p) s.port.nextPlace = some q := by
      rcases hq with ⟨e, hfind, hdrain, rfl⟩ | ⟨hfind, hlen, rfl⟩
      · exact queueTake_merges hfind hdrain
      · exact queueTake_appends hfind hlen
    rw [weighWrite_taken hin hm htake, takeWrite_eq (hp ▸ nofun)]
    rfl

/-- Settles O26: a request presented is weighed by the row of R144 for the path state; one weighed again is presented
anew. -/
theorem requestsByPathState : Obligations.RequestsByPathState := by
  refine ⟨fun s r c hc hw => ?arrives, fun s c q hc hw hb hp hlock => ?abandons, fun s => ⟨exec_requestWeighedAgain_none,
    fun tag w => exec_requestWeighedAgain_some, fun w m d p => exec_requestWeighedAgain_some,
    fun tag w hwait hp hb hroom htag hin hfind => ?joins, fun r hwait =>
    ⟨fun tag w => exec_command_waiting (r := .read tag w) hwait,
      fun w m d p => exec_command_waiting (r := .write w m d p) hwait⟩⟩⟩
  case arrives =>
    obtain rfl : c = r.command := by rcases hc with ⟨tag, w, rfl, rfl⟩ | ⟨w, m, d, p, rfl, rfl⟩ <;> rfl
    rw [exec_command, present_of_idle hw]
    exact ⟨fun hb => congrArg _ (weigh_busReset hb), fun hp => congrArg _ (weigh_hold hp),
      fun hb hp => congrArg _ (weigh_closed hb hp), fun hb hp => congrArg _ (weigh_quiet hb hp),
      fun hb hp => congrArg _ (weigh_waking hb hp)⟩
  case abandons =>
    obtain ⟨r, rfl⟩ : ∃ r : Request, c = r.command := by
      rcases hc with ⟨tag, w, rfl⟩ | ⟨w, m, d, p, rfl⟩
      · exact ⟨.read tag w, rfl⟩
      · exact ⟨.write w m d p, rfl⟩
    rw [exec_command_enteringQuiet hp hb hw, abandonQuiet_withheld hlock]
  case joins =>
    rw [exec_requestWeighedAgain_some hwait]
    refine (exec_readRequest_opened (s := discardWaiting s) hp hb rfl).trans (congrArg _ ?_)
    exact (weighRead_taken (s := discardWaiting s) hroom htag hin).trans (takeRead_joins (.inl ⟨hfind, rfl⟩))

end Sys2Proof.Machine
end

section
/-! The statement on the bus reset line (R154, R155, R159, R170, R171). -/

namespace Sys2Proof.Machine

set_option Elab.async false

section
variable {s : State}

theorem exec_busResetAsserted_hold (hb : s.busReset = false) (hp : s.path.path = .hold) :
    exec .busResetAsserted s = .next { s with busReset := true } := by
  show execBusResetAsserted s = _
  rw [execBusResetAsserted, hb, if_neg Bool.false_ne_true, if_pos hp]

theorem exec_busResetAsserted_outside_hold (hb : s.busReset = false) (hp : s.path.path ≠ .hold) :
    exec .busResetAsserted s = .next (busResetPath (busResetCleared s)) := by
  show execBusResetAsserted s = _
  rw [execBusResetAsserted, if_neg (hb ▸ Bool.false_ne_true), if_neg hp, busResetCleared]

theorem busResetPath_enteringQuiet (hp : s.path.path = .enteringQuiet) : busResetPath s = abandonQuiet s := by
  simp only [busResetPath, hp]

theorem busResetPath_quiet (hp : s.path.path = .quiet) : busResetPath s = beginWake s := by
  simp only [busResetPath, hp]

/-- The other path states are kept (R170). -/
theorem busResetPath_kept (he : s.path.path ≠ .enteringQuiet) (hq : s.path.path ≠ .quiet) : busResetPath s = s := by
  unfold busResetPath
  split
  next h => exact absurd h he
  next h => exact absurd h hq
  all_goals rfl

end

/-- Settles O23: the reads and the waiting request are discarded and the cause recorded in every path state alike; then
the path state moves, with an answer to QUIESCE in ENTERING-QUIET. -/
theorem busResetLine : Obligations.BusResetLine := by
  refine fun s => ⟨rfl, exec_busResetAsserted_hold, fun hb hp => ⟨_, exec_busResetAsserted_outside_hold hb hp, ?_⟩⟩
  by_cases he : s.path.path = .enteringQuiet
  case pos =>
    rw [busResetPath_enteringQuiet (s := busResetCleared s) he, he, abandonQuiet_frame]
    have hanswered {q : Byte} (hlock : s.link.lock = some { seq := q, command := .quiesce }) :=
      congrArg State.link (abandonQuiet_withheld (s := busResetCleared s) hlock)
    exact ⟨rfl, rfl, rfl, rfl, fun _ q hlock => ⟨rfl, hanswered hlock⟩, fun h => absurd rfl h, rfl, rfl, rfl, rfl, rfl,
      rfl, rfl, rfl, rfl⟩
  case neg =>
    by_cases hq : s.path.path = .quiet
    case pos =>
      rw [busResetPath_quiet (s := busResetCleared s) hq, hq]
      exact ⟨rfl, rfl, rfl, rfl, nofun, fun _ => ⟨rfl, rfl, rfl⟩, rfl, rfl, rfl, rfl, rfl, rfl, rfl, rfl, rfl⟩
    case neg =>
      rw [busResetPath_kept (s := busResetCleared s) he hq]
      refine ⟨rfl, rfl, rfl, ?path, fun h => absurd h he, fun _ => ⟨rfl, rfl, rfl⟩, rfl, rfl, rfl, rfl, rfl, rfl, rfl,
        rfl, rfl⟩
      split
      next h => exact absurd h hq
      next h => exact absurd h he
      next => rfl

end Sys2Proof.Machine
end

section
/-! SUPPORT. The request in waiting at a change of path state (R144 to R146), and the moves between path states
(R157). -/

namespace Sys2Proof.Machine

set_option Elab.async false

/-! ## The request in waiting -/

/-- The path states in which a request is answered CLOSED (R144). -/
abbrev PathState.Closed (p : PathState) : Prop := p = .setup ∨ p = .filling ∨ p = .draining ∨ p = .frozen

/-- The port once a request kept waiting has been weighed in a closed path state: answered CLOSED, or discarded under an
asserted bus reset line (R144, R146). -/
def State.closedPort (s : State) : HostPort :=
  match s.port.waiting with
  | none => s.port
  | some r => { s.port with
      waiting := none
      answers := s.port.answers ++ (if s.busReset then [] else [closedAnswer r]) }

section
variable {s : State} {p : PathState} {r : Request}

theorem closedPort_none (h : s.port.waiting = none) : s.closedPort = s.port := by simp only [State.closedPort, h]

theorem closedPort_some (h : s.port.waiting = some r) (hb : s.busReset = false) :
    s.closedPort = { s.port with waiting := none, answers := s.port.answers ++ [closedAnswer r] } := by
  simp only [State.closedPort, h, hb, Bool.false_eq_true, if_false]

theorem closedPort_reads (s : State) : s.closedPort.reads = s.port.reads := by
  unfold State.closedPort
  split <;> rfl

theorem closedPort_nextPlace (s : State) : s.closedPort.nextPlace = s.port.nextPlace := by
  unfold State.closedPort
  split <;> rfl

/-- A request weighed again in a closed path state no longer waits, and that is all (R144, R146). -/
theorem weighWaiting_closed (hp : s.path.path.Closed) : weighWaiting s = { s with port := s.closedPort } := by
  cases hw : s.port.waiting with
  | none => rw [weighWaiting_none hw, closedPort_none hw]
  | some r =>
    rw [weighWaiting_some hw]
    by_cases hb : s.busReset = true
    case pos =>
      refine (weigh_busReset (s := discardWaiting s) hb).trans ?_
      simp only [discardWaiting, State.closedPort, hw, hb, if_true, List.append_nil]
    case neg =>
      have hb : s.busReset = false := Bool.eq_false_iff.mpr hb
      rw [closedPort_some hw hb]
      exact weigh_closed (s := discardWaiting s) hb hp

/-- Weighed again in ENTERING-QUIET, a request abandons the entry and is weighed in OPEN (R145, R164). -/
theorem exec_requestWeighedAgain_enteringQuiet {q : Byte} (hp : s.path.path = .enteringQuiet) (hb : s.busReset = false)
    (hw : s.port.waiting = some r) (hlock : s.link.lock = some { seq := q, command := .quiesce }) :
    exec .requestWeighedAgain s = exec .requestWeighedAgain (abandonQuiet s) := by
  have hwait : (abandonQuiet s).port.waiting = some r := by rw [abandonQuiet_frame]; exact hw
  rw [exec_requestWeighedAgain_some hw, exec_requestWeighedAgain_some hwait, abandonQuiet_withheld hlock]
  refine (exec_command_enteringQuiet (s := discardWaiting s) hp hb rfl).trans ?_
  rw [abandonQuiet_withheld (s := discardWaiting s) hlock]
  rfl

/-! ## Moves -/

theorem moveTo_eq (p : PathState) (s : State) : moveTo p s = s.withPath p (resumeAfter p s.path.resume) := rfl

theorem resumeAfter_path (r x : ResumeState) : resumeAfter r.path x = r := by cases r <;> rfl

theorem resume_path_closed {r : ResumeState} (h : r ≠ .opened) : r.path.Closed := by
  cases r with
  | setup => exact .inl rfl
  | filling => exact .inr (.inl rfl)
  | opened => exact absurd rfl h

/-- A change to a closed path state (R144, R146). -/
theorem changePath_closed (hp : p.Closed) :
    changePath p s = { s with port := s.closedPort }.withPath p (resumeAfter p s.path.resume) :=
  weighWaiting_closed (s := moveTo p s) hp

/-- A return to the resume state with nothing waiting (R157). -/
theorem changePath_resume (hw : s.port.waiting = none) :
    changePath s.path.resume.path s = s.withPath s.path.resume.path s.path.resume := by
  rw [changePath_no_waiting hw, moveTo_eq, resumeAfter_path]

/-! ## DRAINING (R46, R167) -/

theorem withdrawPeek_of_no_lock (h : s.link.lock = none) : withdrawPeek s = s := by simp only [withdrawPeek, h]

theorem withdrawPeek_waiting {q : Byte} {a : ArrayNo} {w : PhysIndex}
    (h : s.link.lock = some { seq := q, command := .peek a w false }) :
    withdrawPeek s = unlock (reply q .refusedState [] s) := by simp only [withdrawPeek, h]

/-- A PEEK already granted stays in execution (R46). -/
theorem withdrawPeek_granted {q : Byte} {a : ArrayNo} {w : PhysIndex}
    (h : s.link.lock = some { seq := q, command := .peek a w true }) : withdrawPeek s = s := by
  simp only [withdrawPeek, h]

theorem withdrawPeek_moveTo (p : PathState) (s : State) : withdrawPeek (moveTo p s) = moveTo p (withdrawPeek s) := by
  unfold withdrawPeek
  dsimp only [moveTo_link]
  split <;> rfl

/-- DRAINING is entered with a waiting PEEK withdrawn, SUPPLY raised and a request in waiting answered (R46, R146,
R167). -/
theorem enterDraining_eq (s : State) : enterDraining s =
    ({ withdrawPeek s with port := s.closedPort }.withPath .draining s.path.resume).withFlags 0x200 := by
  have hraise : raise .supply (moveTo .draining (withdrawPeek s)) =
      (moveTo .draining (withdrawPeek s)).withFlags AlertFlag.supply.mask := raise_outside_quiet nofun
  rw [enterDraining, withdrawPeek_moveTo, hraise, weighWaiting_closed (.inr (.inr (.inl rfl))), withdrawPeek_frame]
  rfl

end

end Sys2Proof.Machine
end

section
/-! The statements on the end of HOLD and of a wake, on the supply warning, and on stillness (R158, R159, R163, R166 to
R168). -/

namespace Sys2Proof.Machine

set_option Elab.async false

section
variable {s : State}

/-! ## The end of HOLD (R159) -/

theorem exec_holdEnd_setup (hp : s.path.path = .hold) (hb : s.busReset = false) (hw : s.supplyWarning = false) :
    exec .holdEnd s = .next (changePath .setup s) := by
  show execHoldEnd s = _
  rw [execHoldEnd, if_pos ⟨hp, hb⟩, hw, if_neg Bool.false_ne_true]

theorem exec_holdEnd_draining (hp : s.path.path = .hold) (hb : s.busReset = false) (hw : s.supplyWarning = true) :
    exec .holdEnd s = .next (enterDraining (moveTo .setup s)) := by
  show execHoldEnd s = _
  rw [execHoldEnd, if_pos ⟨hp, hb⟩, if_pos hw]

/-- HOLD lasts as long as the bus reset line is asserted (R159). -/
theorem exec_holdEnd_busReset (hb : s.busReset = true) : exec .holdEnd s = .next s :=
  congrArg _ (if_neg fun h => Bool.false_ne_true (h.2.symm.trans hb))

/-! ## The end of a wake (R166) -/

theorem exec_wakeEnd (hp : s.path.path = .waking) : exec .wakeEnd s = .next (changePath s.path.resume.path s) :=
  congrArg _ (if_pos hp)

end

/-- Settles O22: each end is one change of path state, with what a request in waiting meets there. -/
theorem holdAndWakeEnd : Obligations.HoldAndWakeEnd := by
  refine ⟨fun s hp hwait hlock => ⟨fun hb hw => ?setup, fun hb hw => ?draining, exec_holdEnd_busReset⟩,
    fun s hp => ?wake⟩
  case setup => exact (exec_holdEnd_setup hp hb hw).trans (congrArg _ (changePath_no_waiting hwait))
  case draining =>
    rw [exec_holdEnd_draining hp hb hw, enterDraining_eq, withdrawPeek_of_no_lock (s := moveTo .setup s) hlock,
      closedPort_none (s := moveTo .setup s) hwait]
    rfl
  case wake =>
    rw [exec_wakeEnd hp]
    refine ⟨fun hwait => congrArg _ (changePath_resume hwait), fun r hwait hb hres => ?closed,
      fun r _ _ hres => ?opened⟩
    case closed => rw [changePath_closed (resume_path_closed hres), closedPort_some hwait hb, resumeAfter_path]
    case opened =>
      rw [hres]
      rfl

section
variable {s : State}

/-! ## The supply warning (R167, R168) -/

theorem exec_supplyWarningAsserted_drains (hw : s.supplyWarning = false) (hp : s.path.path = .setup ∨
    s.path.path = .filling ∨ s.path.path = .opened ∨ s.path.path = .quiet ∨ s.path.path = .waking) :
    exec .supplyWarningAsserted s = .next (enterDraining { s with supplyWarning := true }) := by
  show execSupplyWarningAsserted s = _
  rcases hp with hp | hp | hp | hp | hp <;> simp only [execSupplyWarningAsserted, hw, hp, Bool.false_eq_true, if_false]

theorem exec_supplyWarningAsserted_enteringQuiet (hw : s.supplyWarning = false) (hp : s.path.path = .enteringQuiet) :
    exec .supplyWarningAsserted s = .next (enterDraining (abandonQuiet { s with supplyWarning := true })) := by
  show execSupplyWarningAsserted s = _
  simp only [execSupplyWarningAsserted, hw, hp, Bool.false_eq_true, if_false]

theorem exec_supplyWarningAsserted_hold (hw : s.supplyWarning = false) (hp : s.path.path = .hold) :
    exec .supplyWarningAsserted s = .next { s with supplyWarning := true } := by
  show execSupplyWarningAsserted s = _
  simp only [execSupplyWarningAsserted, hw, hp, Bool.false_eq_true, if_false]

/-- In FROZEN the warning ends a retention exit that had begun (R168). -/
theorem exec_supplyWarningAsserted_frozen (hw : s.supplyWarning = false) (hp : s.path.path = .frozen) :
    exec .supplyWarningAsserted s =
      .next { s with supplyWarning := true, path := { s.path with retentionExit := false } } := by
  show execSupplyWarningAsserted s = _
  simp only [execSupplyWarningAsserted, hw, hp, Bool.false_eq_true, if_false]

theorem exec_supplyWarningReleased_draining (hw : s.supplyWarning = true) (hp : s.path.path = .draining) :
    exec .supplyWarningReleased s = .next (changePath s.path.resume.path { s with supplyWarning := false }) := by
  show execSupplyWarningReleased s = _
  simp only [execSupplyWarningReleased, hw, hp, if_true]

theorem exec_supplyWarningReleased_frozen (hw : s.supplyWarning = true) (hp : s.path.path = .frozen) :
    exec .supplyWarningReleased s =
      .next { s with supplyWarning := false, path := { s.path with retentionExit := true } } := by
  show execSupplyWarningReleased s = _
  simp only [execSupplyWarningReleased, hw, hp, if_true]

theorem exec_supplyWarningReleased_hold (hw : s.supplyWarning = true) (hp : s.path.path = .hold) :
    exec .supplyWarningReleased s = .next { s with supplyWarning := false } := by
  show execSupplyWarningReleased s = _
  simp only [execSupplyWarningReleased, hw, hp, if_true]

theorem exec_retentionExitEnd (hp : s.path.path = .frozen) (hr : s.path.retentionExit = true) :
    exec .retentionExitEnd s =
      .next (changePath s.path.resume.path { s with path := { s.path with retentionExit := false } }) :=
  congrArg _ (if_pos ⟨hp, hr⟩)

end

/-- Settles O24: the entry into DRAINING is one equation, read for each command in execution; the releases are returns
to the resume state. -/
theorem supplyWarningDrainsAndReleases : Obligations.SupplyWarningDrainsAndReleases := by
  refine ⟨fun s port hw hport => ?asserted, fun s hwait => ⟨fun hw hp => ?released,
    exec_supplyWarningReleased_frozen, exec_supplyWarningReleased_hold, fun hp hr => ?exitEnds⟩⟩
  case asserted =>
    obtain rfl : port = s.closedPort := hport
    refine ⟨fun hp => ?drains, fun q hp hlock => ?abandons, exec_supplyWarningAsserted_hold hw,
      exec_supplyWarningAsserted_frozen hw⟩
    case drains =>
      rw [exec_supplyWarningAsserted_drains hw hp, enterDraining_eq]
      refine ⟨fun hlock => ?idle, fun q a w hlock => ?waiting, fun q a w hlock => ?granted⟩
      case idle => rw [withdrawPeek_of_no_lock (s := { s with supplyWarning := true }) hlock]; rfl
      case waiting => rw [withdrawPeek_waiting (s := { s with supplyWarning := true }) hlock]; rfl
      case granted => rw [withdrawPeek_granted (s := { s with supplyWarning := true }) hlock]; rfl
    case abandons =>
      rw [exec_supplyWarningAsserted_enteringQuiet hw hp,
        abandonQuiet_withheld (s := { s with supplyWarning := true }) hlock,
        enterDraining_eq, withdrawPeek_of_no_lock rfl]
      rfl
  case released =>
    rw [exec_supplyWarningReleased_draining hw hp]
    exact congrArg _ (changePath_resume (s := { s with supplyWarning := false }) hwait)
  case exitEnds =>
    rw [exec_retentionExitEnd hp hr]
    exact congrArg _ (changePath_resume (s := { s with path := { s.path with retentionExit := false } }) hwait)

section
variable {s : State}

/-! ## Stillness (R158, R163, R168) -/

theorem exec_quietEntryComplete (hp : s.path.path = .enteringQuiet) (hs : still s = true) :
    exec .quietEntryComplete s =
      .next (if alertCondition s.alert then beginWake (quietEntered s) else quietEntered s) := by
  have halert : (quietEntered s).alert = s.alert := by rw [quietEntered, answerQuiesce_frame]; rfl
  rw [← halert]
  exact congrArg _ (if_pos ⟨hp, hs⟩)

theorem exec_drainToFrozen (hp : s.path.path = .draining) (hs : still s = true) :
    exec .drainToFrozen s = .next (moveTo .frozen s) := congrArg _ (if_pos ⟨hp, hs⟩)

theorem exec_quietEntryComplete_restless (hs : still s = false) : exec .quietEntryComplete s = .next s :=
  congrArg _ (if_neg fun h => Bool.false_ne_true (hs.symm.trans h.2))

theorem exec_drainToFrozen_restless (hs : still s = false) : exec .drainToFrozen s = .next s :=
  congrArg _ (if_neg fun h => Bool.false_ne_true (hs.symm.trans h.2))

/-- QUIET entered with its QUIESCE answered (R163). -/
theorem quietEntered_withheld {q : Byte} (h : s.link.lock = some { seq := q, command := .quiesce }) : quietEntered s =
    { { s with link := { s.link with lock := none } }.withReply q .entered [] with
      path := { s.path with path := .quiet, lastQuiet := .entered } } :=
  answerQuiesce_withheld (s := setQuietOutcome .entered (moveTo .quiet s)) h .entered

end

/-- Settles O25: by stillness; QUIET is entered first, and the alert condition is looked at there. -/
theorem stillnessCompletes : Obligations.StillnessCompletes := by
  refine fun s => ⟨fun q hp hs hlock => ?quiet, exec_drainToFrozen, fun hs =>
    ⟨exec_quietEntryComplete_restless hs, exec_drainToFrozen_restless hs⟩⟩
  rw [exec_quietEntryComplete hp hs, quietEntered_withheld hlock]
  by_cases ha : alertCondition s.alert = true
  case pos => rw [if_pos ha, if_pos ha]; rfl
  case neg => rw [if_neg ha, if_neg ha]

end Sys2Proof.Machine
end

section
/-! The statement on the path commands (R120, R146, R161, R162, R164, R165). -/

namespace Sys2Proof.Machine

set_option Elab.async false

section
variable {q : Byte} {args : List Byte} {s : State}

/-! ## OPEN, CLOSE and FILL (R120, R161) -/

theorem doOpen_opened (hp : s.path.path = .opened) : doOpen q args s = s.withReply q .ok [] := by
  simp only [doOpen, hp, reply_eq]

theorem doOpen_setup (hp : s.path.path = .setup) : doOpen q args s = (changePath .opened s).withReply q .ok [] := by
  simp only [doOpen, hp, reply_eq]

theorem doOpen_refused (hs : s.path.path ≠ .setup) (ho : s.path.path ≠ .opened) :
    doOpen q args s = s.withReply q .refusedState [] := by
  unfold doOpen
  split
  next h => exact absurd h hs
  next h => exact absurd h ho
  all_goals rfl

theorem doClose_setup (hp : s.path.path = .setup) : doClose q args s = s.withReply q .ok [] := by
  simp only [doClose, hp, reply_eq]

/-- CLOSE answers a request kept waiting (R146, R161). -/
theorem doClose_opened (hp : s.path.path = .opened) :
    doClose q args s = ({ s with port := s.closedPort }.withPath .setup .setup).withReply q .ok [] := by
  have hclose : changePath .setup s = { s with port := s.closedPort }.withPath .setup .setup :=
    changePath_closed (.inl rfl)
  simp only [doClose, hp, reply_eq, hclose]

theorem doClose_refused (hs : s.path.path ≠ .setup) (ho : s.path.path ≠ .opened) :
    doClose q args s = s.withReply q .refusedState [] := by
  unfold doClose
  split
  next h => exact absurd h ho
  next h => exact absurd h hs
  all_goals rfl

theorem doFill_setup (hp : s.path.path = .setup) :
    doFill q args s = (startFill (changePath .filling s)).withReply q .ok [] := by
  simp only [doFill, hp, reply_eq]

theorem doFill_refused (hs : s.path.path ≠ .setup) : doFill q args s = s.withReply q .refusedState [] := by
  unfold doFill
  split
  next h => exact absurd h hs
  all_goals rfl

/-! ## QUIESCE and WAKE (R162, R164, R165) -/

theorem doQuiesce_declined (hp : s.path.path = .opened) (ha : alertCondition s.alert = true) :
    doQuiesce q args s = (setQuietOutcome .declined s).withReply q .declined [] := by
  simp only [doQuiesce, hp, ha, if_true, reply_eq]

/-- QUIESCE accepted stays in execution until ENTERING-QUIET ends (R162, R187). -/
theorem doQuiesce_accepted (hp : s.path.path = .opened) (ha : alertCondition s.alert = false) :
    doQuiesce q args s = changePath .enteringQuiet
      { s with link := { s.link with lock := some { seq := q, command := .quiesce } } } := by
  simp only [doQuiesce, hp, ha, Bool.false_eq_true, if_false]

theorem doQuiesce_refused (hp : s.path.path ≠ .opened) : doQuiesce q args s = s.withReply q .refusedState [] := by
  unfold doQuiesce
  split
  next h => exact absurd h hp
  all_goals rfl

/-- ENTERING-QUIET abandoned as it is entered from OPEN leaves OPEN, the outcome and the answer (R164). -/
theorem abandonQuiet_at_entry (hp : s.path.path = .opened) (hlock : s.link.lock = none) :
    abandonQuiet (moveTo .enteringQuiet
      { s with link := { s.link with lock := some { seq := q, command := .quiesce } } }) =
      { s with path := { s.path with resume := .opened, lastQuiet := .abandoned } }.withReply q .abandoned [] := by
  have hstays : { s with
      path := { s.path with path := .opened, resume := .opened, lastQuiet := .abandoned }
      link := { s.link with lock := none } } =
      { s with path := { s.path with resume := .opened, lastQuiet := .abandoned } } := by rw [← hp, ← hlock]
  exact (abandonQuiet_withheld rfl).trans (congrArg (State.withReply · q .abandoned []) hstays)

theorem doWake_quiet (hp : s.path.path = .quiet) : doWake q args s = (beginWake s).withReply q .ok [] := by
  simp only [doWake, hp, reply_eq]

theorem doWake_waking (hp : s.path.path = .waking) : doWake q args s = s.withReply q .ok [] := by
  simp only [doWake, hp, reply_eq]

theorem doWake_refused (hq : s.path.path ≠ .quiet) (hw : s.path.path ≠ .waking) :
    doWake q args s = s.withReply q .refusedState [] := by
  unfold doWake
  split
  next h => exact absurd h hq
  next h => exact absurd h hw
  all_goals rfl

end

/-- Settles O52: each command has one effect by the path state; a request in waiting is met at the change of path
state. -/
theorem pathCommandsMoveThePath : Obligations.PathCommandsMoveThePath := by
  refine ⟨fun s q args h => ?port, fun s q args h => ?quiet⟩
  case port =>
    have hopen : exec (.openPort q args) s = .next (doOpen q args s) :=
      exec_row_executes (c := .openPort) h (Nat.zero_le _)
    have hclose : exec (.closePort q args) s = .next (doClose q args s) :=
      exec_row_executes (c := .closePort) h (Nat.zero_le _)
    have hfill : exec (.fill q args) s = .next (doFill q args s) := exec_row_executes (c := .fill) h (Nat.zero_le _)
    rw [hopen, hclose, hfill]
    refine ⟨fun hp => congrArg _ (doOpen_opened hp), fun hp => congrArg _ (doClose_setup hp),
      fun hp hwait => ⟨?opens, ?fills⟩, fun hp hwait => ?closes, fun r hp hb hwait => ?answers, fun hs ho =>
      ⟨congrArg _ (doOpen_refused hs ho), congrArg _ (doClose_refused hs ho)⟩,
      fun hs => congrArg _ (doFill_refused hs)⟩
    case opens => rw [doOpen_setup hp, changePath_no_waiting hwait]; rfl
    case fills => rw [doFill_setup hp, changePath_no_waiting hwait]; rfl
    case closes => rw [doClose_opened hp, closedPort_none hwait]
    case answers => rw [doClose_opened hp, closedPort_some hwait hb]
  case quiet =>
    have hquiesce : exec (.quiesce q args) s = .next (doQuiesce q args s) :=
      exec_row_executes (c := .quiesce) h (Nat.zero_le _)
    have hwake : exec (.wake q args) s = .next (doWake q args s) := exec_row_executes (c := .wake) h (Nat.zero_le _)
    obtain ⟨-, -, -, hlock, -⟩ := h
    rw [hquiesce, hwake]
    refine ⟨fun hp ha => congrArg _ (doQuiesce_declined hp ha), fun hp ha hwait => ?accepted,
      fun r hp ha hb hwait => ?abandoned, fun hp => congrArg _ (doQuiesce_refused hp),
      fun hp => congrArg _ (doWake_quiet hp), fun hp => congrArg _ (doWake_waking hp),
      fun hq hw => congrArg _ (doWake_refused hq hw)⟩
    case accepted =>
      rw [doQuiesce_accepted hp ha]
      exact congrArg _ (changePath_no_waiting hwait)
    case abandoned =>
      rw [doQuiesce_accepted hp ha, ← abandonQuiet_at_entry hp hlock]
      exact exec_requestWeighedAgain_enteringQuiet rfl hb hwait rfl

end Sys2Proof.Machine
end

section
/-! The statement on RESTART (R115, R122, R156, R157, R169, R171, R172, R187). -/

namespace Sys2Proof.Machine

set_option Elab.async false

/-- What a RESTART does in every path state alike, before the path state moves: reads discarded, the fill abandoned,
parameters, alerts and cause (R169). -/
def restartCleared (s : State) : State :=
  recordCause .restart
    { restartParams (abandonFill (discardReads s)) with alert := { flags := 0, enables := 0, master := false } }

/-- Every fill in hand is void, and the other turns are as they were (R122). -/
theorem restartCleared_turn (s : State) (a : ArrayNo) : (restartCleared s).turn a = match s.turn a with
    | some { work := .fill i _, steer := r } => some { work := .fill i true, steer := r }
    | x => x := by
  have hturn : (restartCleared s).turn a = (s.turn a).map fun t => { t with work := t.work.voidFill } := by
    simp [restartCleared, restartParams, setScrubInterval, abandonFill, State.turn, get_eq]
  rw [hturn]
  cases s.turn a with
  | none => rfl
  | some t =>
    obtain ⟨work, r⟩ := t
    cases work <;> rfl

/-! ## The path state (R169) -/

/-- R169's table. -/
def PathState.restarted : PathState → PathState
  | .setup | .filling | .opened => .setup
  | .quiet => .waking
  | p => p

/-- The port after a RESTART has moved the path state: a request in waiting is weighed where SETUP is entered (R146). -/
def State.restartPort (s : State) : HostPort := if Resumable s.path.path then s.closedPort else s.port

section
variable {s : State}

theorem restartPort_resumable (hp : Resumable s.path.path) : s.restartPort = s.closedPort := if_pos hp

theorem restartPort_kept (hp : ¬Resumable s.path.path) : s.restartPort = s.port := if_neg hp

theorem restartPort_no_waiting (hw : s.port.waiting = none) : s.restartPort = s.port := by
  rw [State.restartPort, closedPort_none hw, ite_self]

theorem restartPort_reads (s : State) : s.restartPort.reads = s.port.reads := by
  rw [State.restartPort, apply_ite HostPort.reads, closedPort_reads, ite_self]

theorem restartPort_nextPlace (s : State) : s.restartPort.nextPlace = s.port.nextPlace := by
  rw [State.restartPort, apply_ite HostPort.nextPlace, closedPort_nextPlace, ite_self]

/-- A RESTART moves the path state by R169's table, with SETUP as the resume state. -/
theorem restartPath_eq (s : State) :
    restartPath s = { s with port := s.restartPort }.withPath s.path.path.restarted .setup := by
  have hsetup (hp : Resumable s.path.path) :
      changePath .setup s = { s with port := s.restartPort }.withPath .setup .setup :=
    (changePath_closed (.inl rfl)).trans (by rw [restartPort_resumable hp]; rfl)
  unfold restartPath
  split
  next hp => rw [hsetup (.inl hp), hp]; rfl
  next hp => rw [hsetup (.inr (.inl hp)), hp]; rfl
  next hp => rw [hsetup (.inr (.inr hp)), hp]; rfl
  next hp => rw [restartPort_kept (by simp [hp]), hp]; rfl
  all_goals
    rename_i hp
    rw [restartPort_kept (by simp [hp]), resumeSetup, State.withPath]
    simp only [hp, PathState.restarted]

end

/-- Settles O53: what is done in every path state alike, then the move by R169's table with what becomes of a request in
waiting. -/
theorem restartApplies : Obligations.RestartApplies := by
  intro s q args h _
  have hexec : exec (.restart q args) s = .next (restartPath (restartCleared (s.withReply q .ok []))) :=
    exec_row_executes (c := .restart) h (Nat.zero_le _)
  rw [restartPath_eq] at hexec
  refine ⟨_, hexec, rfl, rfl, rfl, rfl, rfl, ?reads, ?places, fun hwait => ?idle,
    fun r hwait hb => ⟨fun hp => ?answered, fun hp => ?kept⟩, rfl, rfl, rfl, rfl, rfl, rfl,
    restartCleared_turn (s.withReply q .ok [])⟩
  case reads => exact restartPort_reads _
  case places => exact restartPort_nextPlace _
  case idle =>
    have hport : (restartCleared (s.withReply q .ok [])).restartPort = { s.port with reads := [] } :=
      restartPort_no_waiting hwait
    exact ⟨(congrArg HostPort.waiting hport).trans hwait, (congrArg HostPort.answers hport :)⟩
  case answered =>
    have hresume : Resumable (restartCleared (s.withReply q .ok [])).path.path := .inr (.inr hp)
    have hport : (restartCleared (s.withReply q .ok [])).restartPort =
        { s.port with reads := [], waiting := none, answers := s.port.answers ++ [closedAnswer r] } :=
      (restartPort_resumable hresume).trans (closedPort_some hwait hb)
    exact ⟨congrArg HostPort.waiting hport, congrArg HostPort.answers hport⟩
  case kept =>
    have hresume : ¬Resumable s.path.path := by simp [hp]
    have hport : (restartCleared (s.withReply q .ok [])).restartPort = { s.port with reads := [] } :=
      restartPort_kept hresume
    exact ⟨(congrArg HostPort.waiting hport).trans hwait, (congrArg HostPort.answers hport :)⟩

end Sys2Proof.Machine
end

section
/-! The statements on the power-on reset and the supply dip (R160, R171), and the invariant at reset. -/

namespace Sys2Proof.Machine

set_option Elab.async false

/-! ## The tables at reset -/

theorem reset_table (i : Fin 32) : State.reset.subs.table.get i = none := by
  simp [State.reset, get_eq]

theorem reset_spare (a : ArrayNo) (t : SpareNo) : State.reset.spare a t = .free := by
  simp [State.reset, State.spare, get_eq]

theorem reset_steerOf (a : ArrayNo) : State.reset.steerOf a = .normal := by
  simp [State.reset, State.steerOf, get_eq]

theorem reset_turn (a : ArrayNo) : State.reset.turn a = none := by
  simp [State.reset, State.turn, get_eq]

theorem reset_still : still State.reset = true := (still_iff _).mpr ⟨rfl, rfl, fun a _ => reset_turn a⟩

/-- Settles O2: the tables hold their reset value at every place, and the two resets build the state anew. -/
theorem resetsSetTheirValues : Obligations.ResetsSetTheirValues :=
  ⟨⟨rfl, rfl, slot_emptied, rfl, reset_table, reset_spare, reset_steerOf, reset_turn, rfl, rfl, rfl, rfl, rfl, rfl,
    rfl, rfl, rfl⟩, fun _ => ⟨rfl, rfl⟩⟩

/-- Settles O3: block by block; the part is still in HOLD. -/
theorem invariantHoldsAtReset : Obligations.InvariantHoldsAtReset :=
  have hscrub : ScrubOk State.reset := ⟨installed_zero _, zero_lt_physRows, zero_lt_columns⟩
  have hqueue : QueueOk State.reset := ⟨Nat.zero_le _, List.nodup_nil, nofun⟩
  have hreads : ReadsOk State.reset := ⟨Nat.zero_le _, List.nodup_nil, List.Pairwise.nil, nofun⟩
  have hpath : PathOk State.reset := pathOk_of_hold rfl reset_still rfl rfl rfl rfl
  have hreceiver : ReceiverOk State.reset := ⟨fun _ => rfl, rfl⟩
  ⟨default_paramsOk, reset_mem_wf, emptied_mapOk, reset_subsOk, reset_steerOk, hscrub, hqueue, hreads, hpath, hreceiver⟩

end Sys2Proof.Machine
end

section
/-! SUPPORT. The alert condition flag by flag (R174); and what raises flags and touches nothing else of the Alert Unit,
with the wake that begins in QUIET when the condition comes to hold (R165, R173, R175). -/

namespace Sys2Proof.Machine

set_option Elab.async false

/-! ## The alert condition (R174) -/

/-- Every bit of a flag mask is a flag's (13.5). -/
theorem exists_flag_of_bit {n : Nat} (h : n < 11) : ∃ f : AlertFlag, f.bit = n := by
  interval_cases n
  exacts [⟨.fixed, rfl⟩, ⟨.fault, rfl⟩, ⟨.poisonIn, rfl⟩, ⟨.mapFull, rfl⟩, ⟨.condemned, rfl⟩, ⟨.spareDone, rfl⟩,
    ⟨.noSpare, rfl⟩, ⟨.pass, rfl⟩, ⟨.fillDone, rfl⟩, ⟨.supply, rfl⟩, ⟨.link, rfl⟩]

theorem mask_ne_zero_iff (x : BitVec 11) : x ≠ 0 ↔ ∃ f : AlertFlag, x.getLsbD f.bit = true := by
  constructor
  · intro hx
    by_contra hnone
    refine hx (BitVec.eq_of_getLsbD_eq fun n hn => ?_)
    obtain ⟨f, rfl⟩ := exists_flag_of_bit hn
    exact (Bool.eq_false_iff.mpr fun hf => hnone ⟨f, hf⟩).trans BitVec.getLsbD_zero.symm
  · rintro ⟨f, hf⟩ rfl
    cases BitVec.getLsbD_zero.symm.trans hf

theorem alertCondition_iff (u : AlertUnit) : alertCondition u = true ↔ u.master = true ∧
    ∃ f : AlertFlag, u.flags.getLsbD f.bit = true ∧ u.enables.getLsbD f.bit = true := by
  simp only [alertCondition, Bool.and_eq_true, bne_iff_ne, mask_ne_zero_iff, BitVec.getLsbD_and]

theorem alertLine_iff (s : State) : alertLine s = true ↔ s.path.path ≠ .hold ∧ s.alert.master = true ∧
    ∃ f : AlertFlag, s.alert.flags.getLsbD f.bit = true ∧ s.alert.enables.getLsbD f.bit = true := by
  rw [← alertCondition_iff, alertLine, Bool.and_eq_true, bne_iff_ne]

/-- Flags alone make the condition come to hold, never to fail. -/
theorem alertCondition_of_flags {u : AlertUnit} {x : BitVec 11}
    (hx : ∀ n, u.flags.getLsbD n = true → x.getLsbD n = true) (h : alertCondition u = true) :
    alertCondition { u with flags := x } = true := by
  obtain ⟨hmaster, f, hflag, henable⟩ := (alertCondition_iff u).mp h
  exact (alertCondition_iff _).mpr ⟨hmaster, f, hx _ hflag, henable⟩

theorem alertCondition_raised {u : AlertUnit} (h : alertCondition u = true) (m : BitVec 11) :
    alertCondition { u with flags := u.flags ||| m } = true :=
  alertCondition_of_flags (fun n hn => by rw [BitVec.getLsbD_or, hn, Bool.true_or]) h

/-- Clearing flags does not make the condition come to hold (R176). -/
theorem alertCondition_cleared {u : AlertUnit} (h : alertCondition u = false) (m : BitVec 11) :
    alertCondition { u with flags := u.flags &&& m } = false := by
  refine Bool.eq_false_iff.mpr fun hc => Bool.eq_false_iff.mp h ?_
  refine alertCondition_of_flags (u := { u with flags := u.flags &&& m }) (x := u.flags) (fun n hn => ?_) hc
  rw [BitVec.getLsbD_and, Bool.and_eq_true] at hn
  exact hn.1

/-! ## A change of the Alert Unit (R165, R175) -/

theorem changeAlert_path (u : AlertUnit) (s : State) : (changeAlert u s).path =
    if s.path.path = .quiet ∧ alertCondition s.alert = false ∧ alertCondition u = true then
      { s.path with path := .waking }
    else s.path := by
  unfold changeAlert
  split <;> rfl

/-- Where the condition does not come to hold in QUIET, a change of the Alert Unit changes nothing else. -/
theorem changeAlert_no_wake {u : AlertUnit} {s : State}
    (h : s.path.path = .quiet → alertCondition s.alert = false → alertCondition u = false) :
    changeAlert u s = { s with alert := u } := by
  rw [changeAlert, if_neg]
  rintro ⟨hq, hs, hu⟩
  cases (h hq hs).symm.trans hu

theorem changeAlert_eq_withAlert (u : AlertUnit) (s : State) : changeAlert u s = s.withAlert u := by
  unfold changeAlert State.withAlert alertCondition
  dsimp only
  split <;> rfl

/-! ## What raises flags (R173) -/

/-- Of the Alert Unit, flags have been raised and nothing else has changed; and the path state is as that change leaves
it, so that in QUIET a wake has begun exactly if the condition has come to hold (R165, R175). -/
structure RaisesFlags (s t : State) : Prop where
  alert : ∃ m, t.alert = { s.alert with flags := s.alert.flags ||| m }
  path : t.path = (changeAlert t.alert s).path

theorem RaisesFlags.of_eq {s t : State} (h : t.alert = s.alert := by rfl) (hp : t.path = s.path := by rfl) :
    RaisesFlags s t where
  alert := ⟨0#11, by rw [h, BitVec.or_zero]⟩
  path := by rw [h, hp, changeAlert_no_wake fun _ => id]

theorem RaisesFlags.refl (s : State) : RaisesFlags s s := .of_eq

theorem raise_raisesFlags (f : AlertFlag) (s : State) : RaisesFlags s (raise f s) where
  alert := ⟨f.mask, raise_alert f s⟩
  path := by rw [raise_alert, raise]

theorem RaisesFlags.condition {s t : State} (h : RaisesFlags s t) (hs : alertCondition s.alert = true) :
    alertCondition t.alert = true := by
  obtain ⟨m, hm⟩ := h.alert
  rw [hm]
  exact alertCondition_raised hs m

/-- Once the condition holds no flag begins a wake, so the flags may come one after the other. -/
theorem RaisesFlags.trans {s t u : State} (h : RaisesFlags s t) (g : RaisesFlags t u) : RaisesFlags s u where
  alert := by
    obtain ⟨m, hm⟩ := h.alert
    obtain ⟨n, hn⟩ := g.alert
    exact ⟨m ||| n, by rw [hn, hm, BitVec.or_assoc]⟩
  path := by
    have hp := h.path
    have gp := g.path
    have hcond := g.condition
    rw [changeAlert_path] at hp gp ⊢
    by_cases hwoken : s.path.path = .quiet ∧ alertCondition s.alert = false ∧ alertCondition t.alert = true
    · obtain ⟨hq, hs, ht⟩ := hwoken
      rw [if_pos ⟨hq, hs, ht⟩] at hp
      rw [if_neg (fun x => by simp [ht] at x)] at gp
      rw [if_pos ⟨hq, hs, hcond ht⟩, gp, hp]
    · rw [if_neg hwoken] at hp
      rw [gp, hp]
      refine if_congr (and_congr_right fun hq => and_congr_left fun _ => ⟨fun ht => ?_, fun hs => ?_⟩) rfl rfl
      · exact Bool.eq_false_iff.mpr fun hs => Bool.eq_false_iff.mp ht (h.condition hs)
      · exact Bool.eq_false_iff.mpr fun ht => hwoken ⟨hq, hs, ht⟩

end Sys2Proof.Machine
end

section
/-! SUPPORT. Occurrences raise flags and touch nothing else of the Alert Unit and the path state (R52 to R63, R173); so do
the condemnations they set off, and the results of COPY, MIGRATE and SCRUB turns. -/

namespace Sys2Proof.Machine

set_option Elab.async false

/-! ## The repair blocks (R76 to R80, R96 to R99) -/

theorem voidCopy_raisesFlags (a : ArrayNo) (i : Fin 32) (s : State) : RaisesFlags s (voidCopy a i s) := by
  rw [voidCopy, mapTurn_frame]
  exact .of_eq

theorem cancelMigration_raisesFlags (a : ArrayNo) (s : State) : RaisesFlags s (cancelMigration a s) := by
  rw [cancelMigration_frame]
  exact .of_eq

section
variable (auto : Bool) (a : ArrayNo) (s : State)

theorem condemnHostRow_raisesFlags (row : Nat) : RaisesFlags s (condemnHostRow auto a row s).1 := by
  unfold condemnHostRow
  split
  · exact .refl s
  · split
    · exact .refl s
    · split
      · exact .of_eq
      · exact raise_raisesFlags ..

theorem retarget_raisesFlags (i : Fin 32) (e : SubEntry) : RaisesFlags s (retarget auto a i e s).1 := by
  unfold retarget
  split
  · exact .refl s
  · split
    · exact .of_eq
    · exact raise_raisesFlags ..

theorem replaceTarget_raisesFlags (i : Fin 32) (e : SubEntry) (src : CopySource) :
    RaisesFlags s (replaceTarget a i e src s).1 := by
  have hvoid : RaisesFlags s (voidCopy a i (setSpare a e.target .retired s)) :=
    RaisesFlags.trans .of_eq (voidCopy_raisesFlags ..)
  unfold replaceTarget
  dsimp only
  split
  · exact hvoid.trans .of_eq
  · exact (hvoid.trans .of_eq).trans (raise_raisesFlags ..)

theorem condemnRowEngine_raisesFlags (row : Nat) : RaisesFlags s (condemnRowEngine auto a row s).1 := by
  unfold condemnRowEngine
  split
  · exact condemnHostRow_raisesFlags ..
  · split
    · unfold condemnSpare
      split
      · exact .refl s
      · split
        · exact retarget_raisesFlags ..
        · exact replaceTarget_raisesFlags ..
    · exact .refl s

theorem condemnCodedLane_raisesFlags (k : CodedLane) : RaisesFlags s (condemnCodedLane auto a k s).1 := by
  unfold condemnCodedLane
  split
  · split
    · exact .refl s
    · exact .of_eq
  · split
    · exact .refl s
    · split
      · exact .refl s
      · exact raise_raisesFlags ..

theorem condemnLaneEngine_raisesFlags (l : PhysLane) : RaisesFlags s (condemnLaneEngine auto a l s).1 := by
  unfold condemnLaneEngine
  split
  · exact condemnCodedLane_raisesFlags ..
  · unfold condemnSpareLane
    split
    · exact .refl s
    · exact (cancelMigration_raisesFlags a s).trans (raise_raisesFlags ..)
    · exact raise_raisesFlags ..

end

/-! ## Occurrences (R52 to R63) -/

theorem raisesFlags_allows (o : Occurrence) : AllowsOccurrence o RaisesFlags where
  refl := .refl
  trans := .trans
  raise := raise_raisesFlags
  withMap _ _ := .of_eq
  row s := condemnRowEngine_raisesFlags true o.array s o.row
  lane l s _ := condemnLaneEngine_raisesFlags true o.array s l

theorem deliver_raisesFlags (o : Occurrence) (s : State) : RaisesFlags s (deliver o s) :=
  (raisesFlags_allows o).deliver s

theorem report_raisesFlags (a : ArrayNo) (i : PhysIndex) (g : Origin) (d : Decoded) (s : State) :
    RaisesFlags s (report a i g d s) :=
  report_within (.refl s) fun _ _ => raisesFlags_allows _

/-! ## The results of COPY and MIGRATE turns (R84, R85, R102, R103) -/

theorem copyResult_raisesFlags (h : CopyHand) (s : State) : RaisesFlags s (copyResult h s) := by
  rcases copyResult_cases h s with hr | ⟨e, hr⟩ | ⟨e, src, hr⟩ <;> rw [hr]
  · exact .refl s
  · exact .of_eq
  · refine RaisesFlags.trans ?_ (raise_raisesFlags ..)
    cases src <;> exact .of_eq

theorem migrateResult_raisesFlags (a : ArrayNo) (i : PhysIndex) (void : Bool) (s : State) :
    RaisesFlags s (migrateResult a i void s) := by
  unfold migrateResult
  split
  · exact .refl s
  · split
    · exact .refl s
    · exact .refl s
    · split
      · exact RaisesFlags.trans .of_eq (raise_raisesFlags ..)
      · exact .of_eq

/-! ## The cursor (R112, R117, R118) -/

theorem setCursor_raisesFlags (p : ScrubPos) (s : State) : RaisesFlags s (setCursor p s) := .of_eq

/-- The completion of a pass raises PASS (R118). -/
theorem completePass_raisesFlags (s : State) : RaisesFlags s (completePass s) := by
  unfold completePass
  exact (RaisesFlags.trans .of_eq (raise_raisesFlags ..)).trans (setCursor_raisesFlags ..)

theorem scrubResult_raisesFlags (leftSet : Bool) (s : State) : RaisesFlags s (scrubResult leftSet s) := by
  unfold scrubResult
  split
  · exact .refl s
  · unfold advanceCursor
    split
    · exact .of_eq
    · split
      · exact .of_eq
      · exact completePass_raisesFlags s

end Sys2Proof.Machine
end

section
/-! SUPPORT. Through what the blocks do a set flag stays set (R173, R176), and the part does not come to be in QUIET with
the alert condition holding (R163, R165, R175): the host memory port, the lines and timed ends, grants and completions. -/

namespace Sys2Proof.Machine

set_option Elab.async false

/-! ## The relations -/

/-- The part is not in QUIET with the alert condition holding (R163, R165, R175). -/
def Unalerted (s : State) : Prop := s.path.path = .quiet → alertCondition s.alert = false

/-- Flags that are set stay set, and the part does not come to be in QUIET with the alert condition holding. -/
structure KeepsAlerts (s t : State) : Prop where
  flags : ∀ n, s.alert.flags.getLsbD n = true → t.alert.flags.getLsbD n = true
  unalerted : Unalerted s → Unalerted t

theorem KeepsAlerts.refl (s : State) : KeepsAlerts s s := ⟨fun _ => id, id⟩

theorem KeepsAlerts.trans {s t u : State} (h : KeepsAlerts s t) (g : KeepsAlerts t u) : KeepsAlerts s u where
  flags n hn := g.flags n (h.flags n hn)
  unalerted hs := g.unalerted (h.unalerted hs)

/-- Two states with the same Alert Unit, the second in QUIET only if the first is. -/
structure SameAlert (s t : State) : Prop where
  alert : t.alert = s.alert := by rfl
  quiet : t.path.path = .quiet → s.path.path = .quiet := by exact fun h => h

theorem SameAlert.trans {s t u : State} (h : SameAlert s t) (g : SameAlert t u) : SameAlert s u where
  alert := g.alert.trans h.alert
  quiet hu := h.quiet (g.quiet hu)

theorem SameAlert.keeps {s t : State} (h : SameAlert s t) : KeepsAlerts s t where
  flags _ hn := by rwa [h.alert]
  unalerted hs ht := by
    rw [h.alert]
    exact hs (h.quiet ht)

/-- A change of the Alert Unit begins a wake wherever the condition would come to hold in QUIET. -/
theorem changeAlert_unalerted (u : AlertUnit) {s : State} (hs : Unalerted s) : Unalerted (changeAlert u s) := by
  rw [Unalerted, changeAlert_path, changeAlert_alert]
  split
  · nofun
  next hno => exact fun hq => Bool.eq_false_iff.mpr fun hu => hno ⟨hq, hs hq, hu⟩

theorem changeAlert_keepsAlerts {u : AlertUnit} {s : State}
    (h : ∀ n, s.alert.flags.getLsbD n = true → u.flags.getLsbD n = true) : KeepsAlerts s (changeAlert u s) where
  flags := by rwa [changeAlert_alert]
  unalerted := changeAlert_unalerted u

theorem RaisesFlags.keeps {s t : State} (h : RaisesFlags s t) : KeepsAlerts s t where
  flags n hn := by
    obtain ⟨m, hm⟩ := h.alert
    rw [hm, BitVec.getLsbD_or, hn, Bool.true_or]
  unalerted hs := by
    have ht := changeAlert_unalerted t.alert hs
    rwa [Unalerted, changeAlert_alert, ← h.path] at ht

theorem raise_keepsAlerts (f : AlertFlag) (s : State) : KeepsAlerts s (raise f s) := (raise_raisesFlags f s).keeps

theorem KeepsAlerts.reply {s t : State} (h : KeepsAlerts s t) (q : Byte) (st : LinkStatus) (b : List Byte) :
    KeepsAlerts s (reply q st b t) := h.trans (SameAlert.keeps {})

theorem reply_keepsAlerts (q : Byte) (st : LinkStatus) (b : List Byte) (s : State) : KeepsAlerts s (reply q st b s) :=
  (KeepsAlerts.refl s).reply ..

/-! ## Moves of the path state (R46, R157, R164) -/

/-- Only the end of ENTERING-QUIET moves the path state to QUIET (R163). -/
theorem moveTo_sameAlert {p : PathState} (hp : p ≠ .quiet) (s : State) : SameAlert s (moveTo p s) :=
  { quiet := fun h => absurd h hp }

theorem beginWake_sameAlert (s : State) : SameAlert s (beginWake s) := { quiet := nofun }

theorem resume_path_ne_quiet (r : ResumeState) : r.path ≠ .quiet := by cases r <;> nofun

theorem abandonQuiet_sameAlert (s : State) : SameAlert s (abandonQuiet s) := by
  rw [abandonQuiet_frame]
  exact { quiet := nofun }

theorem withdrawPeek_sameAlert (s : State) : SameAlert s (withdrawPeek s) := by
  rw [withdrawPeek_frame]
  exact {}

/-! ## Requests (R144 to R150) -/

theorem answerClosed_sameAlert (r : Request) (s : State) : SameAlert s (answerClosed r s) := by
  rw [answerClosed_eq]
  exact {}

theorem weighRead_sameAlert (tag : BitVec 4) (w : BitVec 28) (s : State) : SameAlert s (weighRead tag w s) := by
  unfold weighRead
  split
  · exact {}
  · split
    · exact {}
    · split
      · exact {}
      · unfold takeRead
        split
        · exact {}
        · split <;> exact {}

/-- A write that is taken poisoned raises POISON-IN (R149). -/
theorem weighWrite_keepsAlerts (w : BitVec 28) (mask : Byte) (data : Data) (parity : Byte) (s : State) :
    KeepsAlerts s (weighWrite w mask data parity s) := by
  unfold weighWrite
  split
  · exact SameAlert.keeps {}
  · split
    · exact SameAlert.keeps {}
    · split
      · unfold takeWrite
        dsimp only
        split
        · exact (SameAlert.keeps {}).trans (raise_keepsAlerts ..)
        · exact SameAlert.keeps {}
      · exact SameAlert.keeps {}

theorem weighOpen_keepsAlerts (r : Request) (s : State) : KeepsAlerts s (weighOpen r s) := by
  cases r with
  | read tag w => exact (weighRead_sameAlert tag w s).keeps
  | write w mask data parity => exact weighWrite_keepsAlerts w mask data parity s

theorem weigh_keepsAlerts (r : Request) (s : State) : KeepsAlerts s (weigh r s) := by
  unfold weigh
  split
  · exact .refl s
  · split
    case h_1 => exact .refl s
    case h_6 => exact weighOpen_keepsAlerts r s
    case h_7 => exact (abandonQuiet_sameAlert s).keeps.trans (weighOpen_keepsAlerts ..)
    case h_8 => exact SameAlert.keeps { quiet := nofun }
    case h_9 => exact SameAlert.keeps {}
    all_goals exact (answerClosed_sameAlert r s).keeps

theorem weighWaiting_keepsAlerts (s : State) : KeepsAlerts s (weighWaiting s) := by
  unfold weighWaiting
  split
  · exact .refl s
  · exact KeepsAlerts.trans (t := discardWaiting s) (SameAlert.keeps {}) (weigh_keepsAlerts ..)

theorem present_keepsAlerts (r : Request) (s : State) : KeepsAlerts s (present r s) := by
  unfold present
  split
  · exact .refl s
  · exact weigh_keepsAlerts r s

theorem changePath_keepsAlerts {p : PathState} (hp : p ≠ .quiet) (s : State) : KeepsAlerts s (changePath p s) :=
  (moveTo_sameAlert hp s).keeps.trans (weighWaiting_keepsAlerts _)

/-- DRAINING is entered with SUPPLY raised (R167). -/
theorem enterDraining_keepsAlerts (s : State) : KeepsAlerts s (enterDraining s) :=
  ((moveTo_sameAlert (by decide) s).trans (withdrawPeek_sameAlert _)).keeps.trans
    ((raise_keepsAlerts ..).trans (weighWaiting_keepsAlerts _))

/-! ## The lines and the timed ends (R154 to R168) -/

section
variable {s t : State}

theorem execHoldEnd_keepsAlerts (h : execHoldEnd s = .next t) : KeepsAlerts s t := by
  cases Host.Outcome.next.inj h
  split
  · split
    · exact (moveTo_sameAlert (by decide) s).keeps.trans (enterDraining_keepsAlerts _)
    · exact changePath_keepsAlerts (by decide) s
  · exact .refl s

theorem busResetPath_sameAlert (s : State) : SameAlert s (busResetPath s) := by
  unfold busResetPath
  split
  · exact abandonQuiet_sameAlert s
  · exact beginWake_sameAlert s
  all_goals exact {}

theorem execBusResetAsserted_keepsAlerts (h : execBusResetAsserted s = .next t) : KeepsAlerts s t := by
  cases Host.Outcome.next.inj h
  split
  · exact .refl s
  · split
    · exact SameAlert.keeps {}
    · exact (SameAlert.trans (t := busResetCleared s) {} (busResetPath_sameAlert _)).keeps

theorem execSupplyWarningAsserted_keepsAlerts (h : execSupplyWarningAsserted s = .next t) : KeepsAlerts s t := by
  have hwarned : SameAlert s { s with supplyWarning := true } := {}
  cases Host.Outcome.next.inj h
  split
  · exact .refl s
  · dsimp only
    split
    case h_6 => exact (hwarned.trans (abandonQuiet_sameAlert _)).keeps.trans (enterDraining_keepsAlerts _)
    case h_7 => exact SameAlert.keeps {}
    case h_8 => exact hwarned.keeps
    case h_9 => exact hwarned.keeps
    all_goals exact hwarned.keeps.trans (enterDraining_keepsAlerts _)

theorem execSupplyWarningReleased_keepsAlerts (h : execSupplyWarningReleased s = .next t) : KeepsAlerts s t := by
  have hreleased : SameAlert s { s with supplyWarning := false } := {}
  cases Host.Outcome.next.inj h
  split
  · dsimp only
    split
    · exact hreleased.keeps.trans (changePath_keepsAlerts (resume_path_ne_quiet _) _)
    · exact SameAlert.keeps {}
    all_goals exact hreleased.keeps
  · exact .refl s

theorem execRetentionExitEnd_keepsAlerts (h : execRetentionExitEnd s = .next t) : KeepsAlerts s t := by
  cases Host.Outcome.next.inj h
  split
  · exact KeepsAlerts.trans (t := { s with path := { s.path with retentionExit := false } }) (SameAlert.keeps {})
      (changePath_keepsAlerts (resume_path_ne_quiet _) _)
  · exact .refl s

theorem execWakeEnd_keepsAlerts (h : execWakeEnd s = .next t) : KeepsAlerts s t := by
  cases Host.Outcome.next.inj h
  split
  · exact changePath_keepsAlerts (resume_path_ne_quiet _) s
  · exact .refl s

/-- QUIET is entered with the condition weighed: where it holds, a wake begins at once (R163). -/
theorem execQuietEntryComplete_keepsAlerts (h : execQuietEntryComplete s = .next t) : KeepsAlerts s t := by
  have hflags (n : Nat) (hn : s.alert.flags.getLsbD n = true) : (quietEntered s).alert.flags.getLsbD n = true := by
    rwa [quietEntered, answerQuiesce_frame]
  cases Host.Outcome.next.inj h
  split
  · dsimp only
    split
    · exact ⟨hflags, fun _ => nofun⟩
    next hcond => exact ⟨hflags, fun _ _ => Bool.eq_false_iff.mpr hcond⟩
  · exact .refl s

theorem execDrainToFrozen_keepsAlerts (h : execDrainToFrozen s = .next t) : KeepsAlerts s t := by
  cases Host.Outcome.next.inj h
  split
  · exact (moveTo_sameAlert (by decide) s).keeps
  · exact .refl s

theorem execScrubIntervalExpiry_keepsAlerts (h : execScrubIntervalExpiry s = .next t) : KeepsAlerts s t := by
  cases Host.Outcome.next.inj h
  split <;> exact SameAlert.keeps {}

end

/-! ## Grants (R29, R34) -/

/-- A grant begins a turn; no flag is raised by it. -/
theorem grant_sameAlert {a : ArrayNo} {k : TurnKind} {s t : State} (h : grant a k s = some t) : SameAlert s t := by
  cases k <;> dsimp only [grant] at h
  case hostRead =>
    unfold grantHostRead at h
    split at h
    · cases h; exact {}
    · split at h <;> cases h
      exact {}
  case drain =>
    unfold grantDrain at h
    split at h
    · cases h; exact {}
    · dsimp only at h
      split at h <;> cases h
      exact {}
  case peek =>
    unfold grantPeek at h
    split at h <;> cases h <;> exact {}
  case copy =>
    unfold grantCopy at h
    split at h
    · cases h; exact {}
    · split at h
      · cases h; exact {}
      · split at h <;> cases h
        exact {}
  case migrate =>
    unfold grantMigrate at h
    split at h
    · cases h; exact {}
    · cases h; exact {}
    · split at h <;> cases h
      exact {}
  case fill =>
    unfold grantFill at h
    split at h <;> cases h <;> exact {}
  case scrub =>
    unfold grantScrub at h
    split at h <;> cases h
    exact {}

theorem execTurnGrant_sameAlert {a : ArrayNo} {s t : State} (h : execTurnGrant a s = .next t) : SameAlert s t := by
  rcases execTurnGrant_cases a s with ⟨-, ht⟩ | ⟨k, u, -, hu, ht⟩ | ⟨k, -, -, ht⟩
  · cases ht.symm.trans h
    exact {}
  · cases ht.symm.trans h
    exact grant_sameAlert hu
  · cases ht.symm.trans h

/-! ## Completions (R35 to R45) -/

theorem disturb_sameAlert (a : ArrayNo) (i : PhysIndex) (flips : Stored) (s : State) :
    SameAlert s (disturb a i flips s) := by
  rw [disturb_eq_withMem]
  exact {}

theorem setWords_sameAlert (a : ArrayNo) (w : Stored) (is : List PhysIndex) (s : State) :
    SameAlert s (setWords a w is s) := by
  rw [setWords_eq_withMem]
  exact {}

theorem repairWrite_sameAlert (a : ArrayNo) (i : PhysIndex) (r : SteerRecord) (d : Decoded) (s : State) :
    SameAlert s (repairWrite a i r d s) := by
  rw [repairWrite_eq_withMem]
  exact {}

theorem hostReadResult_sameAlert (place : Nat) (d : Decoded) (s : State) : SameAlert s (hostReadResult place d s) := by
  rw [hostReadResult_frame]
  exact {}

theorem answerPeek_sameAlert (result : List Byte) (s : State) : SameAlert s (answerPeek result s) := by
  unfold answerPeek
  split <;> exact {}

theorem fillNotice_sameAlert (s : State) : SameAlert s (fillNotice s) := by
  unfold fillNotice
  split
  · exact moveTo_sameAlert (by decide) s
  all_goals exact {}

theorem fillResult_keepsAlerts (a : ArrayNo) (i : PhysIndex) (void : Bool) (s : State) :
    KeepsAlerts s (fillResult a i void s) := by
  unfold fillResult
  split
  · exact .refl s
  · split
    · exact SameAlert.keeps {}
    · exact ((SameAlert.keeps {}).trans (raise_keepsAlerts ..)).trans (fillNotice_sameAlert _).keeps

section
variable {a : ArrayNo} {flips : Stored} {s t : State}

theorem endTurn_keepsAlerts (a : ArrayNo) (s : State) : KeepsAlerts s (endTurn a s) := SameAlert.keeps {}

theorem drainResult_keepsAlerts (w : BitVec 28) (s : State) : KeepsAlerts s (drainResult w s) := SameAlert.keeps {}

theorem execHostReadComplete_keepsAlerts (h : execHostReadComplete a flips s = .next t) : KeepsAlerts s t := by
  cases Host.Outcome.next.inj h
  split
  next place i repair r _ =>
    unfold completeHostRead
    dsimp only
    refine ((KeepsAlerts.trans (disturb_sameAlert a i flips s).keeps ?_).trans (report_raisesFlags ..).keeps).trans
      ((endTurn_keepsAlerts ..).trans (hostReadResult_sameAlert ..).keeps)
    split
    · exact (repairWrite_sameAlert ..).keeps
    · exact .refl _
  · exact .refl s

theorem execDrainComplete_keepsAlerts (h : execDrainComplete a flips s = .next t) : KeepsAlerts s t := by
  cases Host.Outcome.next.inj h
  split
  · refine KeepsAlerts.trans ?_ ((endTurn_keepsAlerts ..).trans (drainResult_keepsAlerts ..))
    split
    · exact (setWords_sameAlert ..).keeps
    · exact ((disturb_sameAlert ..).trans (setWords_sameAlert ..)).keeps.trans (report_raisesFlags ..).keeps
  · exact .refl s

theorem execPeekTurnComplete_keepsAlerts (h : execPeekTurnComplete a flips s = .next t) : KeepsAlerts s t := by
  cases Host.Outcome.next.inj h
  split
  · exact (disturb_sameAlert ..).keeps.trans ((endTurn_keepsAlerts ..).trans (answerPeek_sameAlert ..).keeps)
  · exact .refl s

/-- A word read, another written over it or elsewhere, and what was read reported (R39, R40). -/
theorem rewriteTurn_keepsAlerts (i j : PhysIndex) (w : Stored) (g : Origin) (d : Decoded) :
    KeepsAlerts s (report a i g d ((disturb a i flips s).setWord a j w)) :=
  ((disturb_sameAlert ..).trans {}).keeps.trans (report_raisesFlags ..).keeps

theorem execCopyTurnComplete_keepsAlerts (h : execCopyTurnComplete a flips s = .next t) : KeepsAlerts s t := by
  cases Host.Outcome.next.inj h
  split
  · dsimp only
    split
    · exact (rewriteTurn_keepsAlerts ..).trans ((endTurn_keepsAlerts ..).trans (copyResult_raisesFlags ..).keeps)
    · exact (rewriteTurn_keepsAlerts ..).trans (endTurn_keepsAlerts ..)
  · exact .refl s

theorem execMigrateTurnComplete_keepsAlerts (h : execMigrateTurnComplete a flips s = .next t) : KeepsAlerts s t := by
  cases Host.Outcome.next.inj h
  split
  · exact (rewriteTurn_keepsAlerts ..).trans ((endTurn_keepsAlerts ..).trans (migrateResult_raisesFlags ..).keeps)
  · exact .refl s

theorem execFillTurnComplete_keepsAlerts (h : execFillTurnComplete a s = .next t) : KeepsAlerts s t := by
  cases Host.Outcome.next.inj h
  split
  · exact KeepsAlerts.trans (SameAlert.keeps {}) (fillResult_keepsAlerts ..)
  · exact .refl s

theorem execScrubTurnComplete_keepsAlerts (h : execScrubTurnComplete a flips s = .next t) : KeepsAlerts s t := by
  cases Host.Outcome.next.inj h
  split
  · exact (((disturb_sameAlert ..).trans (repairWrite_sameAlert ..)).keeps.trans (report_raisesFlags ..).keeps).trans
      ((endTurn_keepsAlerts ..).trans (scrubResult_raisesFlags ..).keeps)
  · exact .refl s

end

end Sys2Proof.Machine
end

section
/-! SUPPORT. The commands of the link and the alerts (R44, R69 to R71, R87 to R92, R106 to R109, R161 to R169, R176, R177,
R190 to R192): all but CLEAR-FLAGS and RESTART leave a set flag set, and none leaves the part in QUIET with the alert
condition holding. -/

namespace Sys2Proof.Machine

set_option Elab.async false

theorem setParam_sameAlert (id v : Nat) (s : State) : SameAlert s (setParam id v s) := by
  unfold setParam
  split <;> exact {}

section
variable (q : Byte) (args : List Byte) (s : State)

/-! ## Parameters and the path state (R161 to R169, R191, R192) -/

theorem doGetParam_sameAlert : SameAlert s (doGetParam q args s) := by
  unfold doGetParam
  split <;> exact {}

theorem doSetParam_sameAlert : SameAlert s (doSetParam q args s) := by
  unfold doSetParam
  split
  · unfold doSetArrays
    split
    · split
      · rw [setArrays_frame]
        exact {}
      · exact {}
    · exact {}
  · split
    · exact (setParam_sameAlert ..).trans {}
    · exact {}

theorem doOpen_keepsAlerts : KeepsAlerts s (doOpen q args s) := by
  unfold doOpen
  split
  · exact (changePath_keepsAlerts (by decide) s).reply ..
  all_goals exact reply_keepsAlerts ..

theorem doClose_keepsAlerts : KeepsAlerts s (doClose q args s) := by
  unfold doClose
  split
  · exact (changePath_keepsAlerts (by decide) s).reply ..
  all_goals exact reply_keepsAlerts ..

theorem doFill_keepsAlerts : KeepsAlerts s (doFill q args s) := by
  unfold doFill
  split
  · exact ((changePath_keepsAlerts (p := .filling) (by decide) s).trans (SameAlert.keeps {})).reply ..
  all_goals exact reply_keepsAlerts ..

theorem doQuiesce_keepsAlerts : KeepsAlerts s (doQuiesce q args s) := by
  unfold doQuiesce
  split
  · split
    · exact SameAlert.keeps {}
    · exact KeepsAlerts.trans
        (t := { s with link := { s.link with lock := some { seq := q, command := .quiesce } } }) (SameAlert.keeps {})
        (changePath_keepsAlerts (by decide) _)
  all_goals exact reply_keepsAlerts ..

theorem doWake_sameAlert : SameAlert s (doWake q args s) := by
  unfold doWake
  split
  · exact (beginWake_sameAlert s).trans {}
  all_goals exact {}

theorem restartPath_keepsAlerts : KeepsAlerts s (restartPath s) := by
  unfold restartPath
  split
  case h_1 => exact changePath_keepsAlerts (by decide) s
  case h_2 => exact changePath_keepsAlerts (by decide) s
  case h_3 => exact changePath_keepsAlerts (by decide) s
  case h_4 => exact (SameAlert.trans (t := resumeSetup s) {} (beginWake_sameAlert _)).keeps
  all_goals exact SameAlert.keeps {}

/-- A RESTART takes the enables away before it moves the path state (R169). -/
theorem doRestart_unalerted : Unalerted (doRestart q args s) :=
  (restartPath_keepsAlerts _).unalerted fun _ => rfl

/-! ## PEEK, the map and the tables (R44, R69 to R71, R91, R92, R109) -/

theorem doPeek_sameAlert : SameAlert s (doPeek q args s) := by
  unfold doPeek
  split
  iterate 3
    · split <;> exact {}
  all_goals exact {}

theorem doMapRead_sameAlert : SameAlert s (doMapRead q args s) := by
  unfold doMapRead
  split
  · exact {}
  · split <;> exact {}

theorem doMapDelete_sameAlert : SameAlert s (doMapDelete q args s) := by
  unfold doMapDelete
  split
  · exact {}
  · split <;> exact {}

theorem doSubRead_sameAlert : SameAlert s (doSubRead q args s) := by
  unfold doSubRead
  split
  · exact {}
  · split <;> exact {}

theorem doSpareRead_sameAlert : SameAlert s (doSpareRead q args s) := by
  unfold doSpareRead
  split <;> exact {}

theorem doLaneRead_sameAlert : SameAlert s (doLaneRead q args s) := by
  unfold doLaneRead
  split <;> exact {}

/-! ## The repair blocks (R87 to R90, R106 to R108) -/

theorem doCondemnRow_keepsAlerts : KeepsAlerts s (doCondemnRow q args s) := by
  unfold doCondemnRow
  split
  iterate 2
    · split
      · split
        · exact (condemnRowEngine_raisesFlags ..).keeps.reply ..
        · exact reply_keepsAlerts ..
      · exact reply_keepsAlerts ..
  all_goals exact reply_keepsAlerts ..

theorem doSubCancel_sameAlert : SameAlert s (doSubCancel q args s) := by
  unfold doSubCancel
  split
  · exact {}
  · split
    · exact {}
    · split
      · exact {}
      · rw [cancelCopy_frame]
        exact {}

theorem doSubLoad_sameAlert : SameAlert s (doSubLoad q args s) := by
  unfold doSubLoad
  split
  · split
    · exact {}
    · split <;> exact {}
  all_goals exact {}

theorem doSpareRetire_sameAlert : SameAlert s (doSpareRetire q args s) := by
  unfold doSpareRetire
  split
  · split <;> exact {}
  · exact {}

theorem doCondemnLane_keepsAlerts : KeepsAlerts s (doCondemnLane q args s) := by
  unfold doCondemnLane
  split
  iterate 2
    · split
      · exact (condemnCodedLane_raisesFlags ..).keeps.reply ..
      · exact reply_keepsAlerts ..
  all_goals exact reply_keepsAlerts ..

theorem doLaneCancel_sameAlert : SameAlert s (doLaneCancel q args s) := by
  unfold doLaneCancel
  split
  · exact {}
  · split
    · exact {}
    · exact {}
    · rw [cancelMigration_frame]
      exact {}

theorem doLaneLoad_sameAlert : SameAlert s (doLaneLoad q args s) := by
  unfold doLaneLoad
  split
  · split
    · split <;> exact {}
    · exact {}
  all_goals exact {}

/-! ## Every command -/

theorem doClearFlags_unalerted {s : State} (hs : Unalerted s) : Unalerted (doClearFlags q args s) :=
  (reply_keepsAlerts ..).unalerted (changeAlert_unalerted _ hs)

/-- SET-ENABLES sets no flag and clears none (R177). -/
theorem doSetEnables_keepsAlerts : KeepsAlerts s (doSetEnables q args s) := by
  refine KeepsAlerts.reply (changeAlert_keepsAlerts ?_) ..
  exact fun _ => id

/-- The commands that clear no flag (R169, R176). -/
def ClearsNoFlag (c : LinkCommand) : Prop := c ≠ .clearFlags ∧ c ≠ .restart

theorem commandEffect_keepsAlerts {c : LinkCommand} (hc : ClearsNoFlag c) :
    KeepsAlerts s (commandEffect c q args s) := by
  cases c with
  | clearFlags => exact absurd rfl hc.1
  | restart => exact absurd rfl hc.2
  | status => exact reply_keepsAlerts ..
  | getParam => exact (doGetParam_sameAlert ..).keeps
  | setParam => exact (doSetParam_sameAlert ..).keeps
  | openPort => exact doOpen_keepsAlerts q args s
  | closePort => exact doClose_keepsAlerts q args s
  | fill => exact doFill_keepsAlerts q args s
  | quiesce => exact doQuiesce_keepsAlerts q args s
  | wake => exact (doWake_sameAlert q args s).keeps
  | readCauses => exact reply_keepsAlerts ..
  | clearCauses => exact SameAlert.keeps {}
  | setEnables => exact doSetEnables_keepsAlerts ..
  | peek => exact (doPeek_sameAlert ..).keeps
  | mapRead => exact (doMapRead_sameAlert ..).keeps
  | mapDelete => exact (doMapDelete_sameAlert ..).keeps
  | mapPurge => exact SameAlert.keeps {}
  | condemnRow => exact doCondemnRow_keepsAlerts ..
  | subCancel => exact (doSubCancel_sameAlert ..).keeps
  | subLoad => exact (doSubLoad_sameAlert ..).keeps
  | spareRetire => exact (doSpareRetire_sameAlert ..).keeps
  | subRead => exact (doSubRead_sameAlert ..).keeps
  | spareRead => exact (doSpareRead_sameAlert ..).keeps
  | condemnLane => exact doCondemnLane_keepsAlerts ..
  | laneCancel => exact (doLaneCancel_sameAlert ..).keeps
  | laneLoad => exact (doLaneLoad_sameAlert ..).keeps
  | laneRead => exact (doLaneRead_sameAlert ..).keeps
  | scrubRead => exact reply_keepsAlerts ..

/-- No command leaves the part in QUIET with the condition holding (R162, R165, R169, R176, R177). -/
theorem commandEffect_unalerted (c : LinkCommand) {s : State} (hs : Unalerted s) :
    Unalerted (commandEffect c q args s) := by
  by_cases hclear : c = .clearFlags
  · subst hclear
    exact doClearFlags_unalerted q args hs
  by_cases hrestart : c = .restart
  · subst hrestart
    exact doRestart_unalerted q args s
  exact (commandEffect_keepsAlerts q args s ⟨hclear, hrestart⟩).unalerted hs

end

end Sys2Proof.Machine
end

section
/-! SUPPORT. What stays within a relation through what arrives on the command line, when the link's own operations do and
the one command that is run does (R179 to R187). -/

namespace Sys2Proof.Machine

set_option Elab.async false

/-- A relation between states that the link's own operations stay within (R179 to R187). -/
structure AllowsAnswers (R : State → State → Prop) : Prop where
  refl : ∀ s, R s s
  trans : ∀ {s t u}, R s t → R t u → R s u
  receiver : ∀ r s, R s (setReceiver r s)
  respond : ∀ r s, R s (respond r s)
  reply : ∀ q st b s, R s (reply q st b s)
  raiseLink : ∀ s, R s (raise .link s)

/-- A relation between states that the effect of a command stays within. -/
def AllowsCommand (R : State → State → Prop) (c : LinkCommand) : Prop := ∀ q args s, R s (commandEffect c q args s)

theorem completedCode_of_frame {b l q code : Byte} {args : List Byte} {s : State} (hhold : s.path.path ≠ .hold)
    (hg : s.link.receiver = .inFrame (l :: q :: code :: args)) (hlen : l.toNat ≤ args.length + 2)
    (hcrc : crc (l :: q :: code :: args) = b) : completedCode b s = some code := by
  simp only [completedCode, if_neg hhold, hg, hlen, hcrc, and_self, if_true]

section
variable {R : State → State → Prop} (h : AllowsAnswers R)
include h

/-- A good frame is answered without its execution, or executed (R185). -/
theorem AllowsAnswers.dealGood {execute : State → State} {s : State} (hexec : R s (execute s)) (q : Byte) :
    R s (dealGood q execute s) := by
  unfold Machine.dealGood
  split
  · exact h.respond ..
  · split
    · split
      · exact h.respond ..
      · exact hexec
    · exact hexec

/-- The frame of a command is answered without it, or the command runs (R185, R189). -/
theorem AllowsAnswers.dealCommand {c : LinkCommand} (hc : AllowsCommand R c) (q : Byte) (args : List Byte) (s : State) :
    R s (Machine.dealGood q (executeCommand c (commandEffect c) q args) s) := by
  refine h.dealGood ?_ q
  unfold executeCommand
  split
  · exact h.reply ..
  · exact hc ..

theorem AllowsAnswers.rejectFrame (q : Byte) (s : State) : R s (rejectFrame q s) :=
  h.trans (h.respond ..) (h.raiseLink _)

theorem AllowsAnswers.frameArrives {next : State → State} (hnext : ∀ u, R u (next u)) (q code : Byte) (args : List Byte)
    (s : State) : R s (frameArrives q code args next s) := by
  rcases frameArrives_cases q args s code next with heq | heq <;> rw [heq]
  · exact h.refl s
  · exact h.trans (h.receiver ..) (hnext _)

/-! ## The rows of the command line -/

section
variable {q code check : Byte} {args : List Byte} {s t : State}

theorem AllowsAnswers.row {c : LinkCommand} (hc : AllowsCommand R c)
    (ht : commandRow c (commandEffect c) q args s = .next t) : R s t := by
  cases Host.Outcome.next.inj ht
  exact h.frameArrives (h.dealCommand hc q args) ..

theorem AllowsAnswers.unknown (ht : execUnknown q code args s = .next t) : R s t := by
  cases Host.Outcome.next.inj ht
  split
  · exact h.refl s
  · exact h.frameArrives (fun u => h.dealGood (h.reply ..) q) ..

theorem AllowsAnswers.linkReject (ht : execLinkReject q code args check s = .next t) : R s t := by
  cases Host.Outcome.next.inj ht
  split
  · exact h.refl s
  · exact h.frameArrives (h.rejectFrame q) ..

theorem AllowsAnswers.linkGapTimeout (ht : execLinkGapTimeout s = .next t) : R s t := by
  cases Host.Outcome.next.inj ht
  split
  · split
    · exact h.refl s
    · exact h.trans (h.receiver ..) (h.raiseLink _)
  all_goals exact h.refl s

theorem AllowsAnswers.discardingTimeout (ht : execDiscardingTimeout s = .next t) : R s t := by
  cases Host.Outcome.next.inj ht
  split
  · split
    · exact h.refl s
    · exact h.trans (h.receiver ..) (h.raiseLink _)
  all_goals exact h.refl s

end

/-! ## Bytes (R179, R182) -/

/-- Of the commands, a complete frame runs the one of its code, when its check is good (R183, R189). -/
theorem AllowsAnswers.completeFrame {gathered : List Byte} {check : Byte}
    (hrun : ∀ l q c args, gathered = l :: q :: LinkCommand.code c :: args → crc gathered = check → AllowsCommand R c)
    (s : State) : R s (completeFrame gathered check s) := by
  unfold Machine.completeFrame
  split
  next l q code args =>
    split
    next hcrc =>
      split
      next c hc =>
        obtain rfl := code_of_ofCode hc
        exact h.dealCommand (hrun l q c args rfl hcrc) q args s
      · exact h.dealGood (h.reply ..) q
    · exact h.rejectFrame q s
  · exact h.refl s

/-- Of the commands, a byte runs the one whose good frame it completes (R179). -/
theorem AllowsAnswers.takeByte {b : Byte} {s : State}
    (hrun : ∀ c, completedCode b s = some (LinkCommand.code c) → AllowsCommand R c) : R s (takeByte b s) := by
  unfold Machine.takeByte
  split
  · exact h.refl s
  next hhold =>
    split
    · split
      · exact h.receiver ..
      · exact h.refl s
    next g hg =>
      unfold frameByte
      split
      · split <;> exact h.receiver ..
      next l rest =>
        split
        · exact h.receiver ..
        next hlen =>
          refine h.trans (h.receiver ..) (h.completeFrame (fun l' q c args hbytes hcrc => hrun c ?_) _)
          rw [hbytes] at hg hcrc
          obtain ⟨rfl, rfl⟩ := List.cons.inj hbytes
          exact completedCode_of_frame hhold hg (Nat.le_of_not_lt hlen) hcrc
    · exact h.refl s

end

end Sys2Proof.Machine
end

section
/-! The statements on the alert flags and the alert line (R163, R165, R171 to R177). -/

namespace Sys2Proof.Machine

set_option Elab.async false

/-! ## Every command -/

theorem keepsAlerts_allowsAnswers : AllowsAnswers KeepsAlerts where
  refl := .refl
  trans := .trans
  receiver _ _ := SameAlert.keeps {}
  respond _ _ := SameAlert.keeps {}
  reply := reply_keepsAlerts
  raiseLink := raise_keepsAlerts .link

theorem keepsAlerts_allowsCommand {c : LinkCommand} (hc : ClearsNoFlag c) : AllowsCommand KeepsAlerts c :=
  fun q args s => commandEffect_keepsAlerts q args s hc

theorem row_keepsAlerts {c : LinkCommand} {q : Byte} {args : List Byte} {s t : State}
    (h : commandRow c (commandEffect c) q args s = .next t) (hc : ClearsNoFlag c) : KeepsAlerts s t :=
  keepsAlerts_allowsAnswers.row (keepsAlerts_allowsCommand hc) h

/-- A byte that completes no good frame of a command that clears flags (R179). -/
theorem takeByte_keepsAlerts {b : Byte} {s : State} (hclear : completedCode b s ≠ some 0x20)
    (hrestart : completedCode b s ≠ some 0x15) : KeepsAlerts s (takeByte b s) := by
  refine keepsAlerts_allowsAnswers.takeByte fun c hc => keepsAlerts_allowsCommand ⟨?_, ?_⟩
  · rintro rfl
    exact hclear hc
  · rintro rfl
    exact hrestart hc

/-- Every command but those that clear flags keeps them, and the part out of QUIET while the condition holds. -/
theorem exec_keepsAlerts {c : Instr} {s t : State} (h : exec c s = .next t) (hclear : ∀ q args, c ≠ .clearFlags q args)
    (hrestart : ∀ q args, c ≠ .restart q args)
    (hbyte : ∀ b, c = .byteArrives b → completedCode b s ≠ some 0x20 ∧ completedCode b s ≠ some 0x15)
    (hpower : c ≠ .powerOn) (hdip : c ≠ .supplyDip) : KeepsAlerts s t := by
  have hlink := keepsAlerts_allowsAnswers
  cases c with
  | powerOn => exact absurd rfl hpower
  | supplyDip => exact absurd rfl hdip
  | clearFlags q args => exact absurd rfl (hclear q args)
  | restart q args => exact absurd rfl (hrestart q args)
  | holdEnd => exact execHoldEnd_keepsAlerts h
  | busResetAsserted => exact execBusResetAsserted_keepsAlerts h
  | busResetReleased =>
    cases Host.Outcome.next.inj h
    exact SameAlert.keeps {}
  | supplyWarningAsserted => exact execSupplyWarningAsserted_keepsAlerts h
  | supplyWarningReleased => exact execSupplyWarningReleased_keepsAlerts h
  | retentionExitEnd => exact execRetentionExitEnd_keepsAlerts h
  | wakeEnd => exact execWakeEnd_keepsAlerts h
  | quietEntryComplete => exact execQuietEntryComplete_keepsAlerts h
  | drainToFrozen => exact execDrainToFrozen_keepsAlerts h
  | readRequest tag addr =>
    cases Host.Outcome.next.inj h
    exact present_keepsAlerts ..
  | writeRequest addr mask data parity =>
    cases Host.Outcome.next.inj h
    exact present_keepsAlerts ..
  | requestWeighedAgain =>
    cases Host.Outcome.next.inj h
    exact weighWaiting_keepsAlerts s
  | turnGrant a => exact (execTurnGrant_sameAlert h).keeps
  | hostReadComplete a f => exact execHostReadComplete_keepsAlerts h
  | drainComplete a f => exact execDrainComplete_keepsAlerts h
  | peekTurnComplete a f => exact execPeekTurnComplete_keepsAlerts h
  | copyTurnComplete a f => exact execCopyTurnComplete_keepsAlerts h
  | migrateTurnComplete a f => exact execMigrateTurnComplete_keepsAlerts h
  | fillTurnComplete a => exact execFillTurnComplete_keepsAlerts h
  | scrubTurnComplete a f => exact execScrubTurnComplete_keepsAlerts h
  | scrubIntervalExpiry => exact execScrubIntervalExpiry_keepsAlerts h
  | linkGapTimeout => exact hlink.linkGapTimeout h
  | discardingTimeout => exact hlink.discardingTimeout h
  | linkReject q code args check => exact hlink.linkReject h
  | unknown q code args => exact hlink.unknown h
  | byteArrives b =>
    cases Host.Outcome.next.inj h
    exact takeByte_keepsAlerts (hbyte b rfl).1 (hbyte b rfl).2
  | responseSent =>
    cases Host.Outcome.next.inj h
    exact SameAlert.keeps {}
  | _ => exact row_keepsAlerts h ⟨nofun, nofun⟩

/-- Settles O11: every command but those that clear flags stays within `KeepsAlerts`. -/
theorem flagsStaySetUntilCleared : Obligations.FlagsStaySetUntilCleared := by
  intro c s t f h hclear hrestart hbyte hpower hdip
  exact (exec_keepsAlerts h hclear hrestart hbyte hpower hdip).flags f.bit

/-! ## QUIET and the alert condition (R163, R165, R175) -/

theorem unalerted_allowsLink : AllowsLink fun s t => Unalerted s → Unalerted t where
  refl _ := id
  trans h g hs := g (h hs)
  receiver _ _ := id
  respond _ _ := id
  reply _ _ _ _ := id
  raiseLink s := (raise_keepsAlerts .link s).unalerted
  effect c q args _ := commandEffect_unalerted q args c

/-- No command leaves the part in QUIET with the condition holding; after a reset it is in HOLD. -/
theorem exec_unalerted {c : Instr} {s t : State} (h : exec c s = .next t) (hs : Unalerted s) : Unalerted t := by
  have hlink := unalerted_allowsLink
  cases c with
  | powerOn =>
    cases Host.Outcome.next.inj h
    nofun
  | supplyDip =>
    cases Host.Outcome.next.inj h
    nofun
  | clearFlags q args => exact hlink.row (c := .clearFlags) h hs
  | restart q args => exact hlink.row (c := .restart) h hs
  | byteArrives b =>
    cases Host.Outcome.next.inj h
    exact hlink.takeByte b s hs
  | _ => exact (exec_keepsAlerts h nofun nofun nofun nofun nofun).unalerted hs

theorem step_unalerted {s t : State} (h : step s = .next t) (hs : Unalerted s) : Unalerted t := by
  unfold step at h
  split at h
  · cases h
    exact hs
  · exact exec_unalerted h hs

/-- Settles O55: the condition flag by flag; every step keeps `Unalerted`; an occurrence raises flags alone. -/
theorem alertLineAndWakes : Obligations.AlertLineAndWakes :=
  ⟨alertLine_iff, alertCondition_iff, fun _ _ hs h => step_unalerted h hs, fun o s =>
    (deliver_raisesFlags s o).path.trans (changeAlert_path ..)⟩

/-! ## The commands (R171, R176, R177) -/

theorem append_setWidth (b1 b0 : Byte) (w : Nat) :
    (b1 ++ b0).setWidth w = BitVec.ofNat w (b1.toNat * 256 + b0.toNat) := by
  have happend : (b1 ++ b0).toNat = b1.toNat * 256 + b0.toNat := by
    rw [BitVec.toNat_append, ← Nat.shiftLeft_add_eq_or_of_lt b0.isLt, Nat.shiftLeft_eq]
  rw [← happend, BitVec.ofNat_toNat]

/-- CLEAR-FLAGS begins no wake: what it leaves of the flags makes no condition hold that did not (R176). -/
theorem changeAlert_cleared (m : BitVec 11) (s : State) :
    changeAlert { s.alert with flags := s.alert.flags &&& m } s =
      { s with alert := { s.alert with flags := s.alert.flags &&& m } } :=
  changeAlert_no_wake fun _ h => alertCondition_cleared h m

/-- Settles O54: the masks are the argument bytes cut to the flags there are; clearing flags begins no wake. -/
theorem causesFlagsAndEnables : Obligations.CausesFlagsAndEnables := by
  intro s q args h
  refine ⟨fun m rest hargs => ?causes, fun m1 m0 rest hargs => ?flags, fun m1 m0 m rest hargs => ?enables⟩
  all_goals subst hargs
  case causes =>
    refine (exec_row_executes (c := .clearCauses) h (Nat.le_add_left ..)).trans ?_
    simp only [commandEffect, doClearCauses, argNat_0_1, BitVec.ofNat_toNat, reply_eq]
  case flags =>
    refine (exec_row_executes (c := .clearFlags) h (Nat.le_add_left ..)).trans ?_
    simp only [commandEffect, doClearFlags, argNat_0_2, ← append_setWidth, changeAlert_cleared, reply_eq]
  case enables =>
    refine (exec_row_executes (c := .setEnables) h (Nat.le_add_left ..)).trans ?_
    simp only [commandEffect, doSetEnables, argNat_0_2, argNat_2_1, ← append_setWidth, changeAlert_eq_withAlert,
      reply_eq]
    rfl

end Sys2Proof.Machine
end

section
/-! The statement on the parameters, the cursors and the receiver through every step (R94, R111, R179, R188, R192). -/

namespace Sys2Proof.Machine

set_option Elab.async false

/-- Settles O9: each of the four is one of the invariants that every step keeps, each for itself. -/
theorem stepsKeepRanges : Obligations.StepsKeepRanges :=
  fun _ _ h => ⟨(step_keeps h).params, (step_keeps h).steer, (step_keeps h).scrub, (step_keeps h).receiver⟩

end Sys2Proof.Machine
end

section
/-! The statements on the codes of the link (12.2, 13.2 to 13.7), and on STATUS and GET-PARAM (R190, R191). -/

namespace Sys2Proof.Machine

set_option Elab.async false

/-! ## Codes and worked frames -/

/-- The check bytes worked in 12.2 and 13.2 (R180). -/
theorem crc_worked : crc [0x02, 0x01, 0x10] = 0xB3 ∧ crc [0x02, 0x01, 0x00] = 0xC3 := by decide +kernel

theorem commandFrame_open : commandFrame 0x01 0x10 [] = [0xA5, 0x02, 0x01, 0x10, 0xB3] :=
  congrArg (fun check => [0xA5, 0x02, 0x01, 0x10, check]) crc_worked.1

theorem bytes_done : ({ seq := 0x01, status := .ok, result := [] } : Response).bytes = [0x5A, 0x02, 0x01, 0x00, 0xC3] :=
  congrArg (fun check => [0x5A, 0x02, 0x01, 0x00, check]) crc_worked.2

/-- Settles O48: the frames by the check byte's arithmetic, the tables row by row. -/
theorem codesAndWorkedFrames : Obligations.CodesAndWorkedFrames :=
  ⟨⟨crc_worked.1, commandFrame_open, bytes_done⟩, rfl, rfl, rfl, rfl, rfl, rfl, rfl, rfl, rfl,
    rfl, rfl, rfl, rfl, rfl, rfl, rfl, rfl⟩

/-! ## STATUS and GET-PARAM (R190, R191) -/

section
variable {q id : Byte} {rest : List Byte} {s : State}

theorem statusBytes_eq (s : State) : statusBytes s =
    [s.path.path.code, s.path.resume.path.code, s.path.lastQuiet.code, s.path.causes.flags.setWidth 8,
     BitVec.ofNat 8 (s.alert.flags.toNat / 256), BitVec.ofNat 8 s.alert.flags.toNat,
     BitVec.ofNat 8 (s.alert.enables.toNat / 256), BitVec.ofNat 8 s.alert.enables.toNat, byteBool s.alert.master,
     byteNat s.queue.length, byteNat s.port.reads.length, byteNat s.map.occupancy, byteNat (entryCount s),
     BitVec.ofNat 8 (s.scrub.pass.toNat / 256), BitVec.ofNat 8 s.scrub.pass.toNat] := by
  simp only [statusBytes, beBytes_two]
  rfl

/-- The settings in the order of R192's table. -/
def Params.values (p : Params) : List Nat :=
  [p.arrays.count, p.suspectAt, p.rowLanes, p.laneRows, p.autoSub.toNat, p.autoSteer.toNat, p.repairRead.toNat,
   p.scrubInterval, p.highWater]

/-- A setting by its id (R192). -/
theorem paramValue_of_values {p : Params} {n v : Nat} (h : p.values[n]? = some v) : n ≤ 8 ∧ paramValue p n = v := by
  obtain ⟨hn, hv⟩ := List.getElem?_eq_some_iff.mp h
  have hn : n ≤ 8 := Nat.le_of_lt_succ hn
  refine ⟨hn, hv ▸ ?_⟩
  interval_cases n <;> rfl

theorem doGetParam_reports {v : Nat} (h : s.params.values[id.toNat]? = some v) :
    doGetParam q (id :: rest) s = s.withReply q .ok (id :: beBytes 4 v) := by
  obtain ⟨hid, hv⟩ := paramValue_of_values h
  have hbyte : byteNat id.toNat = id := by rw [byteNat, BitVec.ofNat_toNat, BitVec.setWidth_eq]
  simp only [doGetParam, argNat_0_1, if_pos hid, getParamBytes, hbyte, hv, reply_eq]

theorem doGetParam_badArgument (h : 8 < id.toNat) :
    doGetParam q (id :: rest) s = s.withReply q .badArgument [] := by
  simp only [doGetParam, argNat_0_1, if_neg (Nat.not_le.mpr h), reply_eq]

end

/-- Settles O49: the reports by their layouts; a setting stands in R192's table at its id. -/
theorem statusAndGetParamReport : Obligations.StatusAndGetParamReport := by
  refine ⟨fun s q args h => ?status, fun s q id rest h => ?getParam⟩
  case status =>
    refine (exec_row_executes (c := .status) h (Nat.zero_le _)).trans ?_
    simp only [commandEffect, doStatus, statusBytes_eq, reply_eq]
    rfl
  case getParam =>
    have hexec : exec (.getParam q (id :: rest)) s = .next (doGetParam q (id :: rest) s) :=
      exec_row_executes (c := .getParam) h (Nat.le_add_left ..)
    rw [hexec]
    refine ⟨fun v hv => ?_, fun hid => congrArg _ (doGetParam_badArgument hid)⟩
    rw [doGetParam_reports hv, beBytes_four]

end Sys2Proof.Machine
end

section
/-! SUPPORT. The bytes of a frame, one by one (R179, R180), and what a whole frame is dealt with as (R183, R185, R186,
R189). -/

namespace Sys2Proof.Machine

set_option Elab.async false

section
variable {s : State} {b l : Byte} {g : List Byte}

/-! ## The receiver's states (R179, R188) -/

theorem takeByte_hold (h : s.path.path = .hold) : takeByte b s = s := if_pos h

theorem takeByte_discarding (h : s.link.receiver = .discarding) : takeByte b s = s := by
  simp only [takeByte, h, ite_self]

theorem takeByte_marker (hp : s.path.path ≠ .hold) (h : s.link.receiver = .awaitMarker) :
    takeByte commandMarker s = setReceiver (.inFrame []) s := by
  simp only [takeByte, if_neg hp, h, if_true]

theorem takeByte_no_marker (h : s.link.receiver = .awaitMarker) (hb : b ≠ commandMarker) : takeByte b s = s := by
  simp only [takeByte, h, if_neg hb, ite_self]

theorem takeByte_inFrame (hp : s.path.path ≠ .hold) (h : s.link.receiver = .inFrame g) :
    takeByte b s = frameByte g b s := by
  simp only [takeByte, if_neg hp, h]

theorem goodLength_iff (b : Byte) : goodLength b = true ↔ 2 ≤ b.toNat ∧ b.toNat ≤ 14 := by
  rw [goodLength, Bool.and_eq_true, decide_eq_true_eq, decide_eq_true_eq]

theorem frameByte_length (b : Byte) (s : State) : frameByte [] b s =
    setReceiver (if 2 ≤ b.toNat ∧ b.toNat ≤ 14 then .inFrame [b] else .discarding) s := by
  simp only [frameByte, goodLength_iff]
  split <;> rfl

theorem frameByte_gathers (h : g.length < l.toNat) :
    frameByte (l :: g) b s = setReceiver (.inFrame (l :: g ++ [b])) s := if_pos h

theorem frameByte_completes (h : l.toNat ≤ g.length) :
    frameByte (l :: g) b s = completeFrame (l :: g) b (setReceiver .awaitMarker s) := if_neg (Nat.not_lt.mpr h)

/-! ## Bytes one after another (R179; log 12) -/

theorem afterBytes_cons (b : Byte) (bs : List Byte) (s : State) :
    afterBytes (b :: bs) s = afterBytes bs (takeByte b s) := rfl

/-- Up to the length they announce, the bytes of a frame are gathered. -/
theorem afterBytes_gathered (hp : s.path.path ≠ .hold) (rest tail : List Byte)
    (hlen : g.length + rest.length ≤ l.toNat) :
    afterBytes (rest ++ tail) (setReceiver (.inFrame (l :: g)) s) =
      afterBytes tail (setReceiver (.inFrame (l :: (g ++ rest))) s) := by
  induction rest generalizing g with
  | nil => rw [List.nil_append, List.append_nil]
  | cons b rest ih =>
    have hroom : g.length < l.toNat := by
      rw [List.length_cons] at hlen
      omega
    have hrest : (g ++ [b]).length + rest.length ≤ l.toNat := by
      rw [List.length_append, List.length_singleton, Nat.add_assoc, Nat.add_comm 1]
      exact hlen
    have hbyte : takeByte b (setReceiver (.inFrame (l :: g)) s) = setReceiver (.inFrame (l :: (g ++ [b]))) s :=
      (takeByte_inFrame (s := setReceiver (.inFrame (l :: g)) s) hp rfl).trans (frameByte_gathers hroom)
    rw [List.cons_append, afterBytes_cons, hbyte, ih hrest, List.append_assoc, List.singleton_append]

/-! ## Whole frames (R179, R180; log 11) -/

variable {q code : Byte} {args : List Byte}

theorem lengthByte_toNat (h : args.length ≤ 12) : (lengthByte args).toNat = 2 + args.length := by
  rw [lengthByte, BitVec.toNat_ofNat]
  omega

/-- The bytes of a whole frame complete it, whatever its check. -/
theorem afterBytes_frame (hp : s.path.path ≠ .hold) (hlen : args.length ≤ 12) (hr : s.link.receiver = .awaitMarker)
    (check : Byte) : afterBytes (commandMarker :: (frameBody q code args ++ [check])) s =
      .next (completeFrame (frameBody q code args) check s) := by
  have hl := lengthByte_toNat hlen
  have hlength : takeByte (lengthByte args) (setReceiver (.inFrame []) s) =
      setReceiver (.inFrame [lengthByte args]) s := by
    rw [takeByte_inFrame (s := setReceiver (.inFrame []) s) hp rfl, frameByte_length, if_pos (by omega)]
    rfl
  have hcheck : takeByte check (setReceiver (.inFrame (frameBody q code args)) s) =
      completeFrame (frameBody q code args) check s := by
    rw [takeByte_inFrame (s := setReceiver (.inFrame (frameBody q code args)) s) hp rfl, frameBody,
      frameByte_completes (by rw [hl, List.length_cons, List.length_cons]; omega)]
    exact congrArg _ (setReceiver_self hr)
  rw [afterBytes_cons, takeByte_marker hp hr, frameBody, List.cons_append, afterBytes_cons, hlength,
    afterBytes_gathered (g := []) hp (q :: code :: args) [check]
      (by rw [hl, List.length_cons, List.length_cons, List.length_nil]; omega), afterBytes_cons]
  exact congrArg _ hcheck

theorem completeFrame_command (c : LinkCommand) (s : State) :
    completeFrame (frameBody q c.code args) (crc (frameBody q c.code args)) s =
      dealGood q (executeCommand c (commandEffect c) q args) s := by
  simp only [completeFrame, frameBody, if_true, ofCode_code]

theorem completeFrame_unknown (h : LinkCommand.ofCode code = none) (s : State) :
    completeFrame (frameBody q code args) (crc (frameBody q code args)) s = dealGood q (executeUnknown q) s := by
  simp only [completeFrame, frameBody, if_true, h]

theorem completeFrame_bad {check : Byte} (h : check ≠ crc (frameBody q code args)) (s : State) :
    completeFrame (frameBody q code args) check s = rejectFrame q s := if_neg h.symm

/-! ## The rows of whole frames (R183, R185, R189; log 11) -/

theorem exec_row_whole (c : LinkCommand) (hp : s.path.path ≠ .hold) (hlen : args.length ≤ 12)
    (hr : s.link.receiver = .awaitMarker) :
    exec (c.row q args) s = .next (dealGood q (executeCommand c (commandEffect c) q args) s) := by
  rw [exec_row, commandRow, frameArrives_whole hp hlen hr]

theorem exec_unknown (h : LinkCommand.ofCode code = none) (s : State) :
    exec (.unknown q code args) s = .next (frameArrives q code args (dealGood q (executeUnknown q)) s) := by
  simp only [exec, execUnknown, h]

theorem exec_unknown_whole (h : LinkCommand.ofCode code = none) (hp : s.path.path ≠ .hold) (hlen : args.length ≤ 12)
    (hr : s.link.receiver = .awaitMarker) :
    exec (.unknown q code args) s = .next (dealGood q (executeUnknown q) s) := by
  rw [exec_unknown h, frameArrives_whole hp hlen hr]

theorem exec_linkReject_whole {check : Byte} (h : check ≠ crc (frameBody q code args)) (hp : s.path.path ≠ .hold)
    (hlen : args.length ≤ 12) (hr : s.link.receiver = .awaitMarker) :
    exec (.linkReject q code args check) s = .next (rejectFrame q s) := by
  simp only [exec, execLinkReject, if_neg h, frameArrives_whole hp hlen hr]

theorem rejectFrame_eq (q : Byte) (s : State) : rejectFrame q s =
    { s with link := { s.link with
      responses := s.link.responses ++ [Response.mk q .linkReject []] } }.raised 0x400 :=
  raise_eq_raised ..

end

end Sys2Proof.Machine
end

section
/-! The statements on bytes and frames (R179 to R189). -/

namespace Sys2Proof.Machine

set_option Elab.async false

/-- Settles O44: the bytes complete the frame, which is dealt with as its row is. -/
theorem bytesOfAFrameDoWhatItsRowDoes : Obligations.BytesOfAFrameDoWhatItsRowDoes := by
  intro s q args hp hlen hr
  refine ⟨fun c => ?command, fun code hcode => ?unknown, fun code check hcheck => ?reject⟩
  case command =>
    rw [commandFrame, afterBytes_frame hp hlen hr, completeFrame_command, exec_row_whole c hp hlen hr]
  case unknown =>
    rw [commandFrame, afterBytes_frame hp hlen hr, completeFrame_unknown hcode, exec_unknown_whole hcode hp hlen hr]
  case reject =>
    rw [afterBytes_frame hp hlen hr, completeFrame_bad hcheck, exec_linkReject_whole hcheck hp hlen hr]

/-! ## The receiver (R179, R181, R182, R188) -/

section
variable {s : State}

/-- The end of a gap: a frame begun is given up, and LINK raised (R181, R182). -/
theorem receiver_given_up (s : State) : raise .link (setReceiver .awaitMarker s) =
    { s with link := { s.link with receiver := .awaitMarker } }.raised 0x400 := raise_eq_raised ..

theorem exec_linkGapTimeout_inFrame {g : List Byte} (hp : s.path.path ≠ .hold) (h : s.link.receiver = .inFrame g) :
    exec .linkGapTimeout s = .next (raise .link (setReceiver .awaitMarker s)) := by
  simp only [exec, execLinkGapTimeout, h, if_neg hp]

theorem exec_discardingTimeout_discarding (hp : s.path.path ≠ .hold) (h : s.link.receiver = .discarding) :
    exec .discardingTimeout s = .next (raise .link (setReceiver .awaitMarker s)) := by
  simp only [exec, execDiscardingTimeout, h, if_neg hp]

theorem exec_timeouts_awaitMarker (h : s.link.receiver = .awaitMarker) :
    exec .linkGapTimeout s = .next s ∧ exec .discardingTimeout s = .next s := by
  simp only [exec, execLinkGapTimeout, execDiscardingTimeout, h, and_self]

theorem exec_byteArrives (b : Byte) (s : State) : exec (.byteArrives b) s = .next (takeByte b s) := rfl

theorem exec_responseSent (s : State) :
    exec .responseSent s = .next { s with link := { s.link with responses := s.link.responses.drop 1 } } := by
  rw [List.drop_one]
  rfl

end

/-- Settles O45: each byte by the receiver's state, each gap by it, and a frame whose check differs. -/
theorem receiverTakesBytes : Obligations.ReceiverTakesBytes := by
  refine ⟨fun s b => ⟨fun hp => ?hold, fun hp => ⟨fun hr => ⟨?marker, fun hb => ?noMarker⟩, fun hr => ?length,
    fun l g hr hlen => ?gathers, fun hr => ?discarding⟩, fun hp => ⟨fun ⟨g, hr⟩ => ?gap, fun hr => ?discardingGap⟩,
    exec_timeouts_awaitMarker⟩, fun s q code args check => ⟨exec_responseSent s, fun hp hlen hr hcheck => ?reject⟩⟩
  case hold => rw [exec_byteArrives, takeByte_hold hp]
  case marker => exact congrArg _ (takeByte_marker hp hr)
  case noMarker => rw [exec_byteArrives, takeByte_no_marker hr hb]
  case length =>
    rw [exec_byteArrives, takeByte_inFrame hp hr, frameByte_length]
    rfl
  case gathers =>
    rw [exec_byteArrives, takeByte_inFrame hp hr, frameByte_gathers hlen]
    rfl
  case discarding => rw [exec_byteArrives, takeByte_discarding hr]
  case gap => rw [exec_linkGapTimeout_inFrame hp hr, receiver_given_up]
  case discardingGap => rw [exec_discardingTimeout_discarding hp hr, receiver_given_up]
  case reject => rw [exec_linkReject_whole hcheck hp hlen hr, rejectFrame_eq]

/-! ## The tests on a good frame (R185, R186, R188, R189) -/

/-- A row that is a good frame, known or unknown, arrives and is dealt with. -/
theorem exists_dealGood {q : Byte} {args : List Byte} {i : Instr} (h : (∃ c : LinkCommand, i = c.row q args) ∨
    ∃ code : Byte, LinkCommand.ofCode code = none ∧ i = .unknown q code args) :
    ∃ code execute, ∀ s, exec i s = .next (frameArrives q code args (dealGood q execute) s) := by
  rcases h with ⟨c, rfl⟩ | ⟨code, hcode, rfl⟩
  · exact ⟨c.code, _, exec_row c q args⟩
  · exact ⟨code, _, exec_unknown hcode⟩

/-- Settles O46: the lock, the store, then the execution. -/
theorem framesAreDealtWithInOrder : Obligations.FramesAreDealtWithInOrder := by
  refine ⟨fun s q args i hi => ?tests, fun s q args h => ?executes⟩
  case tests =>
    obtain ⟨code, execute, hexec⟩ := exists_dealGood hi
    rw [hexec]
    refine ⟨fun hp => by rw [frameArrives_hold hp], fun hp hlen hr => ?_⟩
    rw [frameArrives_whole hp hlen hr]
    exact ⟨fun l hl => congrArg _ (dealGood_busy hl), fun r hl hs hq => congrArg _ (dealGood_retry hl hs hq)⟩
  case executes =>
    obtain ⟨hp, hlen, hr, hlock, hstore⟩ := h
    refine ⟨fun code hcode => ?_, fun c hc => ?_⟩
    · rw [exec_unknown_whole hcode hp hlen hr, dealGood_executes hlock hstore]
      rfl
    · rw [exec_row_whole c hp hlen hr, dealGood_executes hlock hstore, executeCommand, if_pos hc]
      rfl

end Sys2Proof.Machine
end

section
/-! The statement on SET-PARAM (R16, R18, R37, R48, R59, R82, R100, R115, R119, R138, R192). -/

namespace Sys2Proof.Machine

set_option Elab.async false

section
variable {q : Byte} {s : State}

/-! ## ARRAYS (R16, R48, R119) -/

theorem ofNat?_count (n : ArrayCount) : ArrayCount.ofNat? n.count = some n := by cases n <;> rfl

theorem ofNat?_none {v : Nat} (h : v ≠ 1 ∧ v ≠ 2 ∧ v ≠ 4 ∧ v ≠ 8) : ArrayCount.ofNat? v = none := by
  obtain ⟨h1, h2, h4, h8⟩ := h
  simp only [ArrayCount.ofNat?, if_neg h1, if_neg h2, if_neg h4, if_neg h8]

theorem markLeftTurns_turn (s : State) (a : ArrayNo) : (markLeftTurns s).turn a =
    if installed s a then s.turn a else (s.turn a).map fun t => { t with work := t.work.markLeft } := by
  simp only [markLeftTurns, State.turn, get_eq, Vector.getElem_ofFn]

/-- The state in which ARRAYS has changed and the Scrubber has not yet seen it (R16, R117). -/
def arraysChanged (n : ArrayCount) (s : State) : State :=
  markLeftTurns { s with params := { s.params with arrays := n } }

/-- A change of ARRAYS ends no turn and begins none (R48). -/
theorem setArrays_turn_isSome (n : ArrayCount) (s : State) (a : ArrayNo) :
    ((setArrays n s).turn a).isSome = (s.turn a).isSome := by
  have hturn : (setArrays n s).turn a = (arraysChanged n s).turn a := by
    rw [setArrays_frame]
    rfl
  rw [hturn, arraysChanged, markLeftTurns_turn]
  split
  · rfl
  · exact Option.isSome_map

theorem setArrays_walks (n : ArrayCount) (s : State) :
    (setArrays n s).scrub.pass = s.scrub.pass ∧ (setArrays n s).scrub.fill = s.scrub.fill := by
  unfold setArrays rescueCursor
  split <;> exact ⟨rfl, rfl⟩

/-- The cursor stays on an array that stays installed (R119). -/
theorem setArrays_scrub_kept {n : ArrayCount} (h : s.scrub.cursor.array.val < n.count) :
    (setArrays n s).scrub = s.scrub := by
  have hstays : installed (arraysChanged n s) s.scrub.cursor.array = true := decide_eq_true h
  have hset : setArrays n s = arraysChanged n s := if_pos hstays
  rw [hset]
  rfl

/-- The cursor on an array that leaves is brought back to the first position, and its claim withdrawn (R48, R119). -/
theorem setArrays_scrub_returned {n : ArrayCount} (h : n.count ≤ s.scrub.cursor.array.val) :
    (setArrays n s).scrub.claim = false ∧ (rowVisited s 0 0 = true →
      (setArrays n s).scrub.cursor = { array := 0, row := 0, column := 0 }) := by
  have hleft : ¬installed (arraysChanged n s) s.scrub.cursor.array = true :=
    fun hin => Nat.not_lt.mpr h (of_decide_eq_true hin)
  have hset : setArrays n s = _ := if_neg hleft
  rw [hset]
  exact ⟨rfl, fun hv => firstPosition_of_visited hv⟩

theorem doSetArrays_refused {v : Nat} (h : ¬(s.path.path = .setup ∧ s.queue = [] ∧ s.port.reads = [])) :
    doSetArrays q v s = s.withReply q .refusedState [] := if_neg h

theorem doSetArrays_sets {v : Nat} {n : ArrayCount} (h : s.path.path = .setup ∧ s.queue = [] ∧ s.port.reads = [])
    (hv : v = n.count) : doSetArrays q v s = (setArrays n s).withReply q .ok [] := by
  rw [doSetArrays, if_pos h, hv, ofNat?_count]
  rfl

theorem doSetArrays_badArgument {v : Nat} (h : s.path.path = .setup ∧ s.queue = [] ∧ s.port.reads = [])
    (hv : v ≠ 1 ∧ v ≠ 2 ∧ v ≠ 4 ∧ v ≠ 8) : doSetArrays q v s = s.withReply q .badArgument [] := by
  rw [doSetArrays, if_pos h, ofNat?_none hv]
  rfl

/-! ## SET-PARAM (R192, R193) -/

variable {id v3 v2 v1 v0 : Byte} {rest : List Byte}

theorem exec_setParam (h : WillExecute q (id :: v3 :: v2 :: v1 :: v0 :: rest) s) :
    exec (.setParam q (id :: v3 :: v2 :: v1 :: v0 :: rest)) s =
      .next (doSetParam q (id :: v3 :: v2 :: v1 :: v0 :: rest) s) :=
  exec_row_executes (c := .setParam) h (Nat.le_add_left ..)

theorem doSetParam_arrays : doSetParam q (0 :: v3 :: v2 :: v1 :: v0 :: rest) s =
    doSetArrays q (v3.toNat * 16777216 + v2.toNat * 65536 + v1.toNat * 256 + v0.toNat) s := by
  rw [doSetParam, argNat_0_1, argNat_1_4]
  exact if_pos rfl

/-- A value is no small number when its first three bytes are not all 0, or its last is another number. -/
theorem value_ne_small {k : Nat} (hk : k < 256) (h : ¬(v3 = 0 ∧ v2 = 0 ∧ v1 = 0) ∨ v0 ≠ BitVec.ofNat 8 k) :
    v3.toNat * 16777216 + v2.toNat * 65536 + v1.toNat * 256 + v0.toNat ≠ k := by
  intro heq
  have h3 : v3 = 0 := BitVec.eq_of_toNat_eq (show _ = 0 by omega)
  have h2 : v2 = 0 := BitVec.eq_of_toNat_eq (show _ = 0 by omega)
  have h1 : v1 = 0 := BitVec.eq_of_toNat_eq (show _ = 0 by omega)
  have h0 : v0 = BitVec.ofNat 8 k := BitVec.eq_of_toNat_eq (by rw [BitVec.toNat_ofNat]; omega)
  exact h.elim (fun h => h ⟨h3, h2, h1⟩) (fun h => h h0)

theorem value_eq_last (h3 : v3 = 0) (h2 : v2 = 0) (h1 : v1 = 0) :
    v3.toNat * 16777216 + v2.toNat * 65536 + v1.toNat * 256 + v0.toNat = v0.toNat := by
  subst h3 h2 h1
  exact Nat.zero_add _

/-- The parameters other than ARRAYS by their ids and ranges (R192's table). -/
theorem doSetParam_others (hid : id ≠ 0) {v : Nat}
    (hv : v = v3.toNat * 16777216 + v2.toNat * 65536 + v1.toNat * 256 + v0.toNat) :
    doSetParam q (id :: v3 :: v2 :: v1 :: v0 :: rest) s =
      if paramRange id.toNat v then (setParam id.toNat v s).withReply q .ok [] else s.withReply q .badArgument [] := by
  have hne : id.toNat ≠ 0 := fun h => hid (BitVec.eq_of_toNat_eq h)
  rw [doSetParam, argNat_0_1, argNat_1_4, if_neg hne, ← hv]
  rfl

/-- The ids from 1 to 8, and those above (R192's table). -/
theorem paramId_cases (hid : id ≠ 0) : id = 1 ∨ id = 2 ∨ id = 3 ∨ id = 4 ∨ id = 5 ∨ id = 6 ∨ id = 7 ∨ id = 8 ∨
    8 < id.toNat := by
  bv_omega

theorem paramRange_above {n : Nat} (h : 8 < n) (v : Nat) : paramRange n v = false := by
  obtain ⟨k, rfl⟩ := Nat.exists_eq_add_of_le' h
  rfl

end

/-- Settles O51: ARRAYS by the path state and the value, the other parameters by id. -/
theorem setParamSetsParameters : Obligations.SetParamSetsParameters := by
  refine ⟨fun s q v3 v2 v1 v0 rest h => ?arrays, fun s q id v3 v2 v1 v0 rest v h hid hv => ?others⟩
  case arrays =>
    rw [exec_setParam h, doSetParam_arrays]
    refine ⟨fun hno => congrArg _ (doSetArrays_refused hno),
      fun hp hq hr => ⟨fun n h3 h2 h1 h0 => ?sets, fun hbad => ?bad⟩⟩
    case sets =>
      refine ⟨_, congrArg _ (doSetArrays_sets ⟨hp, hq, hr⟩ ((value_eq_last h3 h2 h1).trans h0)), ?_⟩
      obtain ⟨hpass, hfill⟩ := setArrays_walks n s
      refine ⟨?_, ?_, ?_, ?_, ?_, ?_, ?_, ?_, ?_, ?_, hpass, hfill, setArrays_turn_isSome n s, setArrays_scrub_kept,
        setArrays_scrub_returned⟩
      all_goals
        rw [setArrays_frame]
        rfl
    case bad =>
      exact congrArg _ (doSetArrays_badArgument ⟨hp, hq, hr⟩
        ⟨value_ne_small (by decide) (hbad.imp_right fun ⟨h, _⟩ => h),
         value_ne_small (by decide) (hbad.imp_right fun ⟨_, h, _⟩ => h),
         value_ne_small (by decide) (hbad.imp_right fun ⟨_, _, h, _⟩ => h),
         value_ne_small (by decide) (hbad.imp_right fun ⟨_, _, _, h⟩ => h)⟩)
  case others =>
    -- The model tests a value of 0 or 1 with `==`, the statement with `=`.
    have hone : (v == 1) = decide (v = 1) := rfl
    rw [exec_setParam h, doSetParam_others hid hv]
    rcases paramId_cases hid with rfl | rfl | rfl | rfl | rfl | rfl | rfl | rfl | habove
    case inr.inr.inr.inr.inr.inr.inr.inr =>
      have hne (k : Byte) (hk : k.toNat ≤ 8) : id ≠ k := by
        rintro rfl
        omega
      rw [paramRange_above habove, if_neg Bool.false_ne_true]
      simp [hne]
    all_goals simp [paramRange, setParam, setScrubInterval, hone]

end Sys2Proof.Machine
end

section
/-! SUPPORT. No part of a command's effect touches the queue of waiting commands (log 1): the shared operations, the
requests, the lines and the timed ends, the turns. -/

namespace Sys2Proof.Machine

set_option Elab.async false

section
variable (s : State)

/-! ## Alerts and moves of the path state -/

@[simp] theorem changeAlert_pending (u : AlertUnit) : (changeAlert u s).pending = s.pending := by
  rw [changeAlert_eq_withAlert]; rfl

@[simp] theorem raise_pending (f : AlertFlag) : (raise f s).pending = s.pending := changeAlert_pending ..

@[simp] theorem answerQuiesce_pending (st : LinkStatus) : (answerQuiesce st s).pending = s.pending := by
  rw [answerQuiesce_frame]

@[simp] theorem abandonQuiet_pending : (abandonQuiet s).pending = s.pending := by rw [abandonQuiet_frame]

@[simp] theorem withdrawPeek_pending : (withdrawPeek s).pending = s.pending := by rw [withdrawPeek_frame]

/-! ## Requests (R144 to R146) -/

@[simp] theorem weigh_pending (r : Request) : (weigh r s).pending = s.pending := by
  unfold weigh
  split
  · rfl
  · split
    case h_6 hp => rw [weighOpen_frame r hp]
    case h_7 => rw [weighOpen_frame r (abandonQuiet_path s), abandonQuiet_pending]
    case h_1 => rfl
    case h_8 => rfl
    case h_9 => rfl
    all_goals rw [answerClosed_eq, answer_pending]

@[simp] theorem weighWaiting_pending : (weighWaiting s).pending = s.pending := by
  unfold weighWaiting
  split
  · rfl
  · rw [weigh_pending]

@[simp] theorem changePath_pending (p : PathState) : (changePath p s).pending = s.pending := weighWaiting_pending _

@[simp] theorem enterDraining_pending : (enterDraining s).pending = s.pending := by simp [enterDraining]

@[simp] theorem present_pending (r : Request) : (present r s).pending = s.pending := by
  unfold present
  split
  · rfl
  · exact weigh_pending s r

/-! ## The lines and the timed ends (R154 to R168) -/

@[simp] theorem busResetPath_pending : (busResetPath s).pending = s.pending := by
  unfold busResetPath
  split
  · exact abandonQuiet_pending s
  all_goals rfl

theorem execHoldEnd_pending {s t : State} (h : execHoldEnd s = .next t) : t.pending = s.pending := by
  cases Host.Outcome.next.inj h
  split
  · split <;> simp
  · rfl

theorem execBusResetAsserted_pending {s t : State} (h : execBusResetAsserted s = .next t) : t.pending = s.pending := by
  cases Host.Outcome.next.inj h
  split
  · rfl
  · split
    · rfl
    · simp

theorem execSupplyWarningAsserted_pending {s t : State} (h : execSupplyWarningAsserted s = .next t) :
    t.pending = s.pending := by
  cases Host.Outcome.next.inj h
  split
  · rfl
  · dsimp only
    split <;> simp

theorem execSupplyWarningReleased_pending {s t : State} (h : execSupplyWarningReleased s = .next t) :
    t.pending = s.pending := by
  cases Host.Outcome.next.inj h
  split
  · dsimp only
    split <;> simp
  · rfl

theorem execRetentionExitEnd_pending {s t : State} (h : execRetentionExitEnd s = .next t) : t.pending = s.pending := by
  cases Host.Outcome.next.inj h
  split <;> simp

theorem execWakeEnd_pending {s t : State} (h : execWakeEnd s = .next t) : t.pending = s.pending := by
  cases Host.Outcome.next.inj h
  split <;> simp

theorem execQuietEntryComplete_pending {s t : State} (h : execQuietEntryComplete s = .next t) :
    t.pending = s.pending := by
  cases Host.Outcome.next.inj h
  split
  · dsimp only
    split <;> simp
  · rfl

theorem execDrainToFrozen_pending {s t : State} (h : execDrainToFrozen s = .next t) : t.pending = s.pending := by
  cases Host.Outcome.next.inj h
  split <;> rfl

theorem execScrubIntervalExpiry_pending {s t : State} (h : execScrubIntervalExpiry s = .next t) :
    t.pending = s.pending := by
  cases Host.Outcome.next.inj h
  split <;> rfl

/-! ## The parts of a completion (R35 to R45) -/

section
variable (a : ArrayNo) (i : PhysIndex)

@[simp] theorem disturb_pending (flips : Stored) : (disturb a i flips s).pending = s.pending := by
  rw [disturb_eq_withMem]; rfl

@[simp] theorem setWords_pending (w : Stored) (is : List PhysIndex) : (setWords a w is s).pending = s.pending := by
  rw [setWords_eq_withMem]; rfl

@[simp] theorem repairWrite_pending (r : SteerRecord) (d : Decoded) : (repairWrite a i r d s).pending = s.pending := by
  unfold repairWrite
  split <;> rfl

@[simp] theorem report_pending (g : Origin) (d : Decoded) : (report a i g d s).pending = s.pending :=
  (report_same ..).pending

@[simp] theorem endTurn_pending : (endTurn a s).pending = s.pending := rfl

@[simp] theorem hostReadResult_pending (place : Nat) (d : Decoded) :
    (hostReadResult place d s).pending = s.pending := by
  rw [hostReadResult_frame]

@[simp] theorem answerPeek_pending (result : List Byte) : (answerPeek result s).pending = s.pending := by
  unfold answerPeek
  split <;> rfl

@[simp] theorem completeCopy_pending (j : Fin 32) (e : SubEntry) (src : CopySource) :
    (completeCopy j e src s).pending = s.pending := by
  cases src <;> exact raise_pending ..

@[simp] theorem copyResult_pending (h : CopyHand) : (copyResult h s).pending = s.pending := by
  unfold copyResult
  split
  · rfl
  · split
    · rfl
    · split
      · rfl
      · split
        · exact completeCopy_pending ..
        · rfl

@[simp] theorem migrateResult_pending (void : Bool) : (migrateResult a i void s).pending = s.pending := by
  unfold migrateResult
  split
  · rfl
  · split
    · rfl
    · rfl
    · split
      · exact raise_pending ..
      · rfl

@[simp] theorem fillResult_pending (void : Bool) : (fillResult a i void s).pending = s.pending := by
  rw [fillResult_frame]

@[simp] theorem scrubResult_pending (left : Bool) : (scrubResult left s).pending = s.pending := by
  unfold scrubResult
  split
  · rfl
  · rw [advanceCursor_frame]

end

end

/-- A completion leaves the queue of commands alone. -/
theorem pending_of_completesTurn {c : Instr} {s t : State} (hc : CompletesTurn c) (h : exec c s = .next t) :
    t.pending = s.pending := by
  rcases hc with ⟨a, rfl⟩ | ⟨a, f, rfl | rfl | rfl | rfl | rfl | rfl⟩ <;> cases Host.Outcome.next.inj h
  · split
    · simp
    · rfl
  · split
    · unfold completeHostRead
      dsimp only
      split <;> simp
    · rfl
  · split
    · split <;> simp [drainFull, drainPartial]
    · rfl
  · split
    · simp
    · rfl
  · split
    · dsimp only
      split <;> simp
    · rfl
  · split
    · simp
    · rfl
  · split
    · simp
    · rfl

/-! ## Grants (R29, R34) -/

/-- A grant begins a turn and marks what its claimant has handed over: an entry in drain, a read in its turn, the PEEK
granted, the SCRUB claim withdrawn. -/
theorem grant_frame {a : ArrayNo} {k : TurnKind} {s t : State} (h : grant a k s = some t) : t = { s with
    turns := t.turns, queue := t.queue, port := t.port, link := t.link, scrub := t.scrub } := by
  cases k with
  | hostRead =>
    simp only [grant, grantHostRead] at h
    split at h
    · cases h; rfl
    · split at h <;> cases h
      rfl
  | drain =>
    simp only [grant, grantDrain] at h
    split at h
    · cases h; rfl
    · split at h <;> cases h
      rfl
  | peek =>
    simp only [grant, grantPeek] at h
    split at h <;> cases h <;> rfl
  | copy =>
    simp only [grant, grantCopy] at h
    split at h
    · cases h; rfl
    · split at h
      · cases h; rfl
      · split at h <;> cases h
        rfl
  | migrate =>
    simp only [grant, grantMigrate] at h
    split at h
    · cases h; rfl
    · cases h; rfl
    · split at h <;> cases h
      rfl
  | fill =>
    simp only [grant, grantFill] at h
    split at h <;> cases h <;> rfl
  | scrub =>
    simp only [grant, grantScrub] at h
    split at h <;> cases h
    rfl

theorem execTurnGrant_pending {a : ArrayNo} {s t : State} (h : execTurnGrant a s = .next t) :
    t.pending = s.pending := by
  rcases execTurnGrant_cases a s with ⟨-, ht⟩ | ⟨k, u, -, hu, ht⟩ | ⟨k, -, -, ht⟩
  · cases ht.symm.trans h
    rfl
  · cases ht.symm.trans h
    rw [grant_frame hu]
  · cases ht.symm.trans h

end Sys2Proof.Machine
end

section
/-! SUPPORT. Every command of the link, executed, forms one response with its row's result bytes, or stays in execution
with its reply withheld (R184, R187, R195; 13.4); and it leaves the queue of waiting commands alone (log 1). -/

namespace Sys2Proof.Machine

set_option Elab.async false

/-! ## Replies -/

/-- Two states with the same link and the same commands waiting. -/
structure SameLine (s t : State) : Prop where
  link : t.link = s.link := by rfl
  pending : t.pending = s.pending := by rfl

theorem SameBeyondRepair.sameLine {s t : State} (h : SameBeyondRepair s t) : SameLine s t where
  link := h.link
  pending := h.pending

/-- One response has been formed, to the sequence: with DONE it carries the result bytes of the command's row, with any
other status none (R195). -/
def Replied (c : LinkCommand) (q : Byte) (s t : State) : Prop :=
  ∃ st result, t.link.responses = s.link.responses ++ [{ seq := q, status := st, result := result }] ∧
    result.length = if st = .ok then c.resultBytes else 0

/-- The command stays in execution under its lock, no response formed (R44, R162, R187). -/
def Withheld (c : LinkCommand) (q : Byte) (s t : State) : Prop :=
  t.link.responses = s.link.responses ∧ (c = .quiesce ∨ c = .peek) ∧
    ∃ x, t.link.lock = some { seq := q, command := x }

/-- What a command executed comes to on the link (R187), the queue of waiting commands left alone (log 1). -/
structure Answered (c : LinkCommand) (q : Byte) (s t : State) : Prop where
  pending : t.pending = s.pending
  answer : Replied c q s t ∨ Withheld c q s t

section
variable {c : LinkCommand} {q : Byte} {args : List Byte} {s t : State}

theorem answered_reply {st : LinkStatus} {result : List Byte} (h : SameLine s t)
    (hlen : result.length = if st = .ok then c.resultBytes else 0) : Answered c q s (reply q st result t) where
  pending := h.pending
  answer := .inl ⟨st, result, by rw [reply_link, h.link], hlen⟩

/-- DONE with the result bytes of the command's row. -/
theorem answered_done {result : List Byte} (h : SameLine s t) (hlen : result.length = c.resultBytes) :
    Answered c q s (reply q .ok result t) := answered_reply h (by rw [if_pos rfl, hlen])

/-- A status other than DONE, without result bytes. -/
theorem answered_other {st : LinkStatus} (h : SameLine s t) (hst : st ≠ .ok) : Answered c q s (reply q st [] t) :=
  answered_reply h (by rw [if_neg hst, List.length_nil])

/-- Any status, from a command whose row has no result bytes. -/
theorem answered_bare {st : LinkStatus} (h : SameLine s t) (hc : c.resultBytes = 0) :
    Answered c q s (reply q st [] t) := answered_reply h (by rw [hc, ite_self, List.length_nil])

theorem answered_badArgument : Answered c q s (reply q .badArgument [] s) := answered_other {} nofun

theorem answered_refused : Answered c q s (reply q .refusedState [] s) := answered_other {} nofun

theorem answered_empty : Answered c q s (reply q .empty [] s) := answered_other {} nofun

/-! ## Reports (R190, R191, R69, R91, R92, R109, R123; 13.6) -/

theorem statusBytes_length (s : State) : (statusBytes s).length = 15 := by simp [statusBytes, beBytes_length]

theorem getParamBytes_length (p : Params) (n : Nat) : (getParamBytes p n).length = 5 := by
  simp [getParamBytes, beBytes_length]

theorem mapReadBytes_length (m : FaultMap) (i : Fin 64) (e : MapEntry) : (mapReadBytes m i e).length = 16 := by
  simp [mapReadBytes, beBytes_length]

theorem subReadBytes_length (e : SubEntry) : (subReadBytes e).length = 9 := by
  unfold subReadBytes
  split <;> simp [beBytes_length]

theorem spareReadBytes_length (s : State) (a : ArrayNo) : (spareReadBytes s a).length = 16 := by simp [spareReadBytes]

theorem laneReadBytes_length (r : SteerRecord) : (laneReadBytes r).length = 7 := by
  cases r <;> simp [laneReadBytes, beBytes_length]

theorem scrubReadBytes_length (c : Scrubber) : (scrubReadBytes c).length = 13 := by
  unfold scrubReadBytes
  split <;> simp [beBytes_length]

theorem doGetParam_answered : Answered .getParam q s (doGetParam q args s) := by
  unfold doGetParam
  split
  · exact answered_done {} (getParamBytes_length ..)
  · exact answered_badArgument

theorem doMapRead_answered : Answered .mapRead q s (doMapRead q args s) := by
  unfold doMapRead
  split
  · exact answered_badArgument
  · split
    · exact answered_empty
    · exact answered_done {} (mapReadBytes_length ..)

theorem doSubRead_answered : Answered .subRead q s (doSubRead q args s) := by
  unfold doSubRead
  split
  · exact answered_badArgument
  · split
    · exact answered_empty
    · exact answered_done {} (subReadBytes_length _)

theorem doSpareRead_answered : Answered .spareRead q s (doSpareRead q args s) := by
  unfold doSpareRead
  split
  · exact answered_badArgument
  · exact answered_done {} (spareReadBytes_length ..)

theorem doLaneRead_answered : Answered .laneRead q s (doLaneRead q args s) := by
  unfold doLaneRead
  split
  · exact answered_badArgument
  · exact answered_done {} (laneReadBytes_length _)

/-! ## Parameters and alerts (R176, R177, R192) -/

theorem setParam_sameLine (id v : Nat) (s : State) : SameLine s (setParam id v s) := by
  unfold setParam
  split <;> exact {}

theorem setArrays_sameLine (n : ArrayCount) (s : State) : SameLine s (setArrays n s) := by
  rw [setArrays_frame]
  exact {}

theorem changeAlert_sameLine (u : AlertUnit) (s : State) : SameLine s (changeAlert u s) := by
  rw [changeAlert_eq_withAlert]
  exact {}

theorem doSetParam_answered : Answered .setParam q s (doSetParam q args s) := by
  unfold doSetParam doSetArrays
  split
  · split
    · split
      · exact answered_done (setArrays_sameLine ..) rfl
      · exact answered_badArgument
    · exact answered_refused
  · split
    · exact answered_done (setParam_sameLine ..) rfl
    · exact answered_badArgument

/-! ## The path state (R161, R162, R165, R169) -/

theorem weigh_opened_link (r : Request) (hp : s.path.path = .opened) : (weigh r s).link = s.link := by
  by_cases hb : s.busReset = true
  case pos => rw [weigh_busReset hb]
  case neg => rw [weigh_opened (Bool.eq_false_iff.mpr hb) hp, weighOpen_frame r hp]

theorem weighWaiting_opened_link (hp : s.path.path = .opened) : (weighWaiting s).link = s.link := by
  cases hw : s.port.waiting with
  | none => rw [weighWaiting_none hw]
  | some r =>
    rw [weighWaiting_some hw]
    exact weigh_opened_link (s := discardWaiting s) r hp

theorem changePath_opened_sameLine (s : State) : SameLine s (changePath .opened s) where
  link := weighWaiting_opened_link (s := moveTo .opened s) rfl
  pending := changePath_pending ..

theorem changePath_closed_sameLine {p : PathState} (hp : p.Closed) (s : State) : SameLine s (changePath p s) := by
  rw [changePath_closed hp]
  exact {}

theorem doOpen_answered : Answered .openPort q s (doOpen q args s) := by
  unfold doOpen
  split
  · exact answered_done (changePath_opened_sameLine s) rfl
  · exact answered_done {} rfl
  all_goals exact answered_refused

theorem doClose_answered : Answered .closePort q s (doClose q args s) := by
  unfold doClose
  split
  · exact answered_done (changePath_closed_sameLine (.inl rfl) s) rfl
  · exact answered_done {} rfl
  all_goals exact answered_refused

theorem doFill_answered : Answered .fill q s (doFill q args s) := by
  unfold doFill
  split
  · have hfilling : SameLine s (changePath .filling s) := changePath_closed_sameLine (.inr (.inl rfl)) s
    exact answered_done ⟨hfilling.link, hfilling.pending⟩ rfl
  all_goals exact answered_refused

/-- The state under the lock of a QUIESCE (R162). -/
structure Quiescing (q : Byte) (s t : State) : Prop where
  pending : t.pending = s.pending := by rfl
  responses : t.link.responses = s.link.responses := by rfl
  lock : t.link.lock = some { seq := q, command := .quiesce } := by rfl

theorem Quiescing.answered (h : Quiescing q s t) : Answered .quiesce q s t where
  pending := h.pending
  answer := .inr ⟨h.responses, .inl rfl, .quiesce, h.lock⟩

/-- A request weighed as ENTERING-QUIET is entered leaves the QUIESCE withheld, or abandons the entry and has it
answered ABANDONED (R145, R164). -/
theorem Quiescing.weigh_answered (h : Quiescing q s t) (r : Request) (hp : t.path.path = .enteringQuiet) :
    Answered .quiesce q s (weigh r t) where
  pending := (weigh_pending t r).trans h.pending
  answer := by
    by_cases hb : t.busReset = true
    case pos =>
      rw [weigh_busReset hb]
      exact h.answered.answer
    case neg =>
      rw [weigh_enteringQuiet (Bool.eq_false_iff.mpr hb) hp, weighOpen_frame r (abandonQuiet_path t),
        abandonQuiet_withheld h.lock]
      exact .inl ⟨.abandoned, [], congrArg (· ++ _) h.responses, rfl⟩

/-- QUIESCE accepted: a request kept waiting is weighed as an arrival (R146, R162). -/
theorem Quiescing.accepted_answered (h : Quiescing q s t) : Answered .quiesce q s (changePath .enteringQuiet t) := by
  have hentered : Quiescing q s (moveTo .enteringQuiet t) := ⟨h.pending, h.responses, h.lock⟩
  cases hw : t.port.waiting with
  | none =>
    rw [changePath_no_waiting hw]
    exact hentered.answered
  | some r =>
    rw [changePath, weighWaiting_some (s := moveTo .enteringQuiet t) hw]
    have hweighed : Quiescing q s (discardWaiting (moveTo .enteringQuiet t)) := ⟨h.pending, h.responses, h.lock⟩
    exact hweighed.weigh_answered r rfl

theorem doQuiesce_answered : Answered .quiesce q s (doQuiesce q args s) := by
  unfold doQuiesce
  split
  · split
    · exact answered_other {} nofun
    · exact Quiescing.accepted_answered {}
  all_goals exact answered_refused

theorem doWake_answered : Answered .wake q s (doWake q args s) := by
  unfold doWake
  split
  case h_1 => exact answered_done {} rfl
  case h_2 => exact answered_done {} rfl
  all_goals exact answered_refused

/-- RESTART is answered before its effects, which leave the responses alone (R169, R187). -/
theorem doRestart_answered : Answered .restart q s (doRestart q args s) := by
  rw [doRestart, restartEffects, restartPath_eq]
  exact ⟨rfl, .inl ⟨.ok, [], rfl, rfl⟩⟩

theorem doPeek_answered : Answered .peek q s (doPeek q args s) := by
  unfold doPeek
  split
  iterate 3
    · split
      · exact ⟨rfl, .inr ⟨rfl, .inr rfl, _, rfl⟩⟩
      · exact answered_badArgument
  all_goals exact answered_refused

/-! ## The map and the repair blocks (R70, R87 to R90, R106 to R108) -/

theorem doMapDelete_answered : Answered .mapDelete q s (doMapDelete q args s) := by
  unfold doMapDelete
  split
  · exact answered_badArgument
  · split
    · exact answered_empty
    · exact answered_done {} rfl

theorem doCondemnRow_answered : Answered .condemnRow q s (doCondemnRow q args s) := by
  unfold doCondemnRow
  split
  iterate 2
    · split
      · split
        · exact answered_bare (condemnRowEngine_same ..).sameLine rfl
        · exact answered_badArgument
      · exact answered_badArgument
  all_goals exact answered_refused

theorem cancelCopy_sameLine (i : Fin 32) (e : SubEntry) (src : CopySource) (s : State) :
    SameLine s (cancelCopy i e src s) := by
  rw [cancelCopy_frame]
  exact {}

theorem doSubCancel_answered : Answered .subCancel q s (doSubCancel q args s) := by
  unfold doSubCancel
  split
  · exact answered_badArgument
  · split
    · exact answered_empty
    · split
      · exact answered_badArgument
      · exact answered_done (cancelCopy_sameLine ..) rfl

theorem doSubLoad_answered : Answered .subLoad q s (doSubLoad q args s) := by
  unfold doSubLoad
  split
  · split
    · exact answered_badArgument
    · split
      · exact answered_other {} nofun
      · exact answered_done {} rfl
  all_goals exact answered_refused

theorem doSpareRetire_answered : Answered .spareRetire q s (doSpareRetire q args s) := by
  unfold doSpareRetire
  split
  · split
    · exact answered_badArgument
    · exact answered_done {} rfl
    · exact answered_done {} rfl
  · exact answered_badArgument

theorem condemnCodedLane_sameLine (auto : Bool) (a : ArrayNo) (k : CodedLane) (s : State) :
    SameLine s (condemnCodedLane auto a k s).1 := by
  unfold condemnCodedLane
  split
  · split <;> exact {}
  · split
    · exact {}
    · split
      · exact {}
      · exact (raise_same ..).sameLine

theorem doCondemnLane_answered : Answered .condemnLane q s (doCondemnLane q args s) := by
  unfold doCondemnLane
  split
  iterate 2
    · split
      · exact answered_bare (condemnCodedLane_sameLine ..) rfl
      · exact answered_badArgument
  all_goals exact answered_refused

theorem cancelMigration_sameLine (a : ArrayNo) (s : State) : SameLine s (cancelMigration a s) := by
  rw [cancelMigration_frame]
  exact {}

theorem doLaneCancel_answered : Answered .laneCancel q s (doLaneCancel q args s) := by
  unfold doLaneCancel
  split
  · exact answered_badArgument
  · split
    · exact answered_empty
    · exact answered_badArgument
    · exact answered_done (cancelMigration_sameLine ..) rfl

theorem doLaneLoad_answered : Answered .laneLoad q s (doLaneLoad q args s) := by
  unfold doLaneLoad
  split
  · split
    · split
      · exact answered_done {} rfl
      · exact answered_badArgument
    · exact answered_badArgument
  all_goals exact answered_refused

end

/-! ## Every command -/

theorem commandEffect_answered (c : LinkCommand) (q : Byte) (args : List Byte) (s : State) :
    Answered c q s (commandEffect c q args s) := by
  cases c with
  | status => exact answered_done {} (statusBytes_length s)
  | getParam => exact doGetParam_answered
  | setParam => exact doSetParam_answered
  | openPort => exact doOpen_answered (args := args)
  | closePort => exact doClose_answered (args := args)
  | fill => exact doFill_answered (args := args)
  | quiesce => exact doQuiesce_answered (args := args)
  | wake => exact doWake_answered (args := args)
  | restart => exact doRestart_answered (args := args)
  | readCauses => exact answered_done {} rfl
  | clearCauses => exact answered_done {} rfl
  | clearFlags => exact answered_done (changeAlert_sameLine ..) rfl
  | setEnables => exact answered_done (changeAlert_sameLine ..) rfl
  | peek => exact doPeek_answered
  | mapRead => exact doMapRead_answered
  | mapDelete => exact doMapDelete_answered
  | mapPurge => exact answered_done {} rfl
  | condemnRow => exact doCondemnRow_answered
  | subCancel => exact doSubCancel_answered
  | subLoad => exact doSubLoad_answered
  | spareRetire => exact doSpareRetire_answered
  | subRead => exact doSubRead_answered
  | spareRead => exact doSpareRead_answered
  | condemnLane => exact doCondemnLane_answered
  | laneCancel => exact doLaneCancel_answered
  | laneLoad => exact doLaneLoad_answered
  | laneRead => exact doLaneRead_answered
  | scrubRead => exact answered_done {} (scrubReadBytes_length _)

/-- A frame with too few argument bytes is answered without the command's effect (R189). -/
theorem executeCommand_answered (c : LinkCommand) (q : Byte) (args : List Byte) (s : State) :
    Answered c q s (executeCommand c (commandEffect c) q args s) := by
  unfold executeCommand
  split
  · exact answered_badArgument
  · exact commandEffect_answered c q args s

end Sys2Proof.Machine
end

section
/-! The statement that every good frame of a command is answered (R185 to R187, R195). -/

namespace Sys2Proof.Machine

set_option Elab.async false

section
variable {c : LinkCommand} {q : Byte} {args : List Byte} {s t : State}

/-- A command that formed a response was not withheld, and its response is the one formed. -/
theorem replied_length {r : Response} (h : Replied c q s t ∨ Withheld c q s t)
    (hr : t.link.responses = s.link.responses ++ [r]) :
    r.result.length = if r.status = .ok then c.resultBytes else 0 := by
  rcases h with ⟨st, result, hresponses, hlen⟩ | ⟨hresponses, -, -⟩
  · obtain rfl := List.singleton_inj.mp (List.append_cancel_left (hr.symm.trans hresponses))
    exact hlen
  · exact absurd (hr.symm.trans hresponses) (by simp)

/-- A good frame is answered BUSY, with the stored response, or by its execution (R185, R186). -/
theorem dealGood_answered (c : LinkCommand) (q : Byte) (args : List Byte) (s : State) :
    (∃ r : Response, (dealGood q (executeCommand c (commandEffect c) q args) s).link.responses =
      s.link.responses ++ [r] ∧ r.seq = q) ∨
    s.link.lock = none ∧ Answered c q s (dealGood q (executeCommand c (commandEffect c) q args) s) := by
  have hexec := executeCommand_answered c q args s
  unfold dealGood
  split
  · exact .inl ⟨_, rfl, rfl⟩
  next hlock =>
    split
    next r hr =>
      split
      next hq => exact .inl ⟨r, rfl, hq⟩
      next => exact .inr ⟨hlock, hexec⟩
    next => exact .inr ⟨hlock, hexec⟩

end

/-- Settles O47: a frame is answered without its execution, or by the command executed. -/
theorem everyGoodFrameIsAnswered : Obligations.EveryGoodFrameIsAnswered := by
  refine ⟨fun s c q args hp hlen hr => ?answered, fun s t c q args r h hexec hresponses => ?results⟩
  case answered =>
    refine ⟨_, exec_row_whole c hp hlen hr, ?_⟩
    rcases dealGood_answered c q args s with hreply | ⟨hlock, -, ⟨st, result, hresponses, -⟩ | ⟨hresponses, hc, hx⟩⟩
    · exact .inl hreply
    · exact .inl ⟨_, hresponses, rfl⟩
    · exact .inr ⟨hresponses, hlock, hc, hx⟩
  case results =>
    obtain ⟨hp, hlen, hr, hlock, hstore⟩ := h
    rw [exec_row_whole c hp hlen hr, dealGood_executes hlock hstore] at hexec
    cases Host.Outcome.next.inj hexec
    exact replied_length (executeCommand_answered c q args s).answer hresponses

end Sys2Proof.Machine
end

section
/-! The statement that a step runs the front command, and that no command touches the queue of waiting commands
(log 1). -/

namespace Sys2Proof.Machine

set_option Elab.async false

/-- What arrives on the command line leaves the queue of commands alone, since the commands themselves do. -/
theorem pending_allowsLink : AllowsLink fun s t => t.pending = s.pending where
  refl _ := rfl
  trans h g := g.trans h
  receiver _ _ := rfl
  respond _ _ := rfl
  reply _ _ _ _ := rfl
  raiseLink s := raise_pending s .link
  effect c q args s := (commandEffect_answered c q args s).pending

theorem exec_pending {c : Instr} {s t : State} (h : exec c s = .next t) : t.pending = s.pending := by
  have hlink := pending_allowsLink
  cases c with
  | powerOn => cases Host.Outcome.next.inj h; rfl
  | supplyDip => cases Host.Outcome.next.inj h; rfl
  | holdEnd => exact execHoldEnd_pending h
  | busResetAsserted => exact execBusResetAsserted_pending h
  | busResetReleased => cases Host.Outcome.next.inj h; rfl
  | supplyWarningAsserted => exact execSupplyWarningAsserted_pending h
  | supplyWarningReleased => exact execSupplyWarningReleased_pending h
  | retentionExitEnd => exact execRetentionExitEnd_pending h
  | wakeEnd => exact execWakeEnd_pending h
  | quietEntryComplete => exact execQuietEntryComplete_pending h
  | drainToFrozen => exact execDrainToFrozen_pending h
  | readRequest tag addr =>
    cases Host.Outcome.next.inj h
    exact present_pending ..
  | writeRequest addr mask data parity =>
    cases Host.Outcome.next.inj h
    exact present_pending ..
  | requestWeighedAgain =>
    cases Host.Outcome.next.inj h
    exact weighWaiting_pending s
  | turnGrant a => exact execTurnGrant_pending h
  | hostReadComplete a f => exact pending_of_completesTurn (.inr ⟨a, f, .inl rfl⟩) h
  | drainComplete a f => exact pending_of_completesTurn (.inr ⟨a, f, .inr (.inl rfl)⟩) h
  | peekTurnComplete a f => exact pending_of_completesTurn (.inr ⟨a, f, .inr (.inr (.inl rfl))⟩) h
  | copyTurnComplete a f => exact pending_of_completesTurn (.inr ⟨a, f, .inr (.inr (.inr (.inl rfl)))⟩) h
  | migrateTurnComplete a f => exact pending_of_completesTurn (.inr ⟨a, f, .inr (.inr (.inr (.inr (.inl rfl))))⟩) h
  | fillTurnComplete a => exact pending_of_completesTurn (.inl ⟨a, rfl⟩) h
  | scrubTurnComplete a f => exact pending_of_completesTurn (.inr ⟨a, f, .inr (.inr (.inr (.inr (.inr rfl))))⟩) h
  | scrubIntervalExpiry => exact execScrubIntervalExpiry_pending h
  | linkGapTimeout => exact hlink.linkGapTimeout h
  | discardingTimeout => exact hlink.discardingTimeout h
  | linkReject q code args check => exact hlink.linkReject h
  | unknown q code args => exact hlink.unknown h
  | byteArrives b =>
    cases Host.Outcome.next.inj h
    exact hlink.takeByte b s
  | responseSent => cases Host.Outcome.next.inj h; rfl
  | _ => exact hlink.row h

/-- Settles O1: a step is the front command on the rest of the queue, which every command leaves alone. -/
theorem stepRunsFrontCommand : Obligations.StepRunsFrontCommand :=
  ⟨fun _ => ⟨fun _ _ h => by rw [step, h], fun h => by rw [step, h]⟩, fun _ _ _ => exec_pending⟩

end Sys2Proof.Machine
end
